-- ==== Sys2Proof/Word.lean ====
section
/-! DEFINITION. The values of the block (00_scope.md R9) and the packet record (30_encoding.md R57). -/

namespace Sys2Proof

/-- `u8` of R9. -/
abbrev Byte := BitVec 8

/-- `u64` of R9; held as one integer, with no byte order (20_memory.md R45). -/
abbrev Word64 := BitVec 64

/-- A packet record `(ok, len, b)` of 30_encoding.md R57: `ok` is the transceiver's successful-receive report,
`b` the bytes in the order delivered. `len` is `Packet.len`, the number of bytes (log entry 13). -/
structure Packet where
  ok : Bool
  b : List Byte
  deriving DecidableEq, Repr, Inhabited

/-- The length reported with the packet (R57, R67). -/
def Packet.len (p : Packet) : Nat := p.b.length

end Sys2Proof
end

