-- ==== Sys2Proof/Config.lean ====
section
/-! DEFINITION. The parameters of 00_scope.md R7, the constants of R8, the turns of the agents of R6, and the
free values: what the spec leaves to a draw. -/

namespace Sys2Proof

/-- Parameter `OVR_MODE` (R7): where commands 100 and 101 write `output_enabled_override`. -/
inductive OvrMode
  | aliasEnable
  | separate
  deriving DecidableEq, Repr, Inhabited

/-- Parameter `OVF_LOSS_MODE` (R7, 42_cycle_clock.md R115). -/
inductive OvfLossMode
  | fault
  | excluded
  deriving DecidableEq, Repr, Inhabited

/-- Parameter `ARG_ABSENT` (R7, 30_encoding.md R63). -/
inductive ArgAbsent
  | draw
  | discard
  deriving DecidableEq, Repr, Inhabited

/-- The implementation parameters of R7, but for `TICK_RESET`, which is drawn anew at each reset
(`Config.freeTick`). -/
structure Config where
  /-- `FAMILY_ID`, u8, OPEN. -/
  familyId : Byte
  /-- `TPO`, ticks per overflow, at least 1, OPEN. -/
  tpo : Nat
  /-- `TPS`, ticks per second, at least 1, OPEN. -/
  tps : Nat
  /-- `MAX_PAYLOAD`, at least 2, OPEN. -/
  maxPayload : Nat
  /-- `OVR_MODE`. -/
  ovrMode : OvrMode
  /-- `DEADLINE_GATED`. -/
  deadlineGated : Bool
  /-- `OVF_LOSS_MODE`. -/
  ovfLossMode : OvfLossMode
  /-- `ARG_ABSENT`. -/
  argAbsent : ArgAbsent
  /-- `EN_RESET`. -/
  enReset : Bool
  /-- `STORE_INIT`, u8, OPEN (a draw). -/
  storeInit : Byte
  deriving DecidableEq, Repr

/-- The ranges R7 gives the parameters: `TPO >= 1`, `TPS >= 1`, `MAX_PAYLOAD >= 2`. -/
abbrev Config.WF (c : Config) : Prop := 1 ≤ c.tpo ∧ 1 ≤ c.tps ∧ 2 ≤ c.maxPayload

/-- One turn of one agent (R6): the interleaving of 20_memory.md R51 is a sequence of turns. `sched` is the
micro-step that `SPH` names, `BOOT` among them (60_exceptions.md R139); `rx` and `reset` are the two steps of
`HOST` (40_dispatch.md R73, 70_reset_and_hazards.md R153). -/
inductive Turn
  | ticker
  | ovfsvc
  | dispatch
  | sersvc
  | sched
  | rx (p : Packet)
  | reset
  deriving DecidableEq, Repr, Inhabited

/-! ### Constants the source fixes (R8), each named once (93_implementation_defined.md I-1) -/

namespace Config

abbrev opcodeOn : Byte := 100
abbrev opcodeOff : Byte := 101
abbrev opcodeArm : Byte := 102
abbrev opcodeSetdly : Byte := 103
abbrev opcodeSave : Byte := 104
abbrev opcodeSetsave : Byte := 105
abbrev opcodeDisable : Byte := 106
abbrev opcodeEnable : Byte := 107

/-- The factor 60 of 41_scheduler.md R100. -/
abbrev delayScale : Nat := 60

/-- How many bytes of the durable store exist in the model: the one the block uses (20_memory.md R40). -/
abbrev storeSize : Nat := 1

/-! ### Free values: no body, so nothing can be proved of the number (log entries 2, 4, 6, 7, 9) -/

/-- `FAMILY_ID` of the node that `State.reset` describes. -/
opaque openFamilyId : Byte
/-- `TPO` of that node, less 1. -/
opaque openTpoLessOne : Nat
/-- `TPS` of that node, less 1. -/
opaque openTpsLessOne : Nat
/-- `MAX_PAYLOAD` of that node, less 2. -/
opaque openPayloadLessTwo : Nat
/-- `STORE_INIT` of that node (70_reset_and_hazards.md R157). -/
opaque openStoreInit : Byte

/-- The draw behind `TICK_RESET`, reduced to [0, TPO) where it is used (10_state.md R22). -/
opaque freeTick : Nat → Nat
/-- `NOW` after reset, "any value" (10_state.md R15). -/
opaque freeNow : Nat → Word64
/-- `G` after reset, "any value" (10_state.md R15). -/
opaque freeGate : Nat → Bool
/-- A missing argument under `ARG_ABSENT = DRAW` (30_encoding.md R63). -/
opaque freeArg : Nat → Byte
/-- Which agent moves next where State lists no turn (R6, 60_exceptions.md R134). -/
opaque freeTurn : Nat → Turn

/-- The parameters at `State.reset`: the OPEN ones free, the others at the defaults of R7. -/
def node : Config where
  familyId := openFamilyId
  tpo := openTpoLessOne + 1
  tps := openTpsLessOne + 1
  maxPayload := openPayloadLessTwo + 2
  ovrMode := .aliasEnable
  deadlineGated := true
  ovfLossMode := .fault
  argAbsent := .draw
  enReset := false
  storeInit := openStoreInit

end Config

/-- An address of the durable store that exists: 0 alone (20_memory.md R39, R40, R49). -/
abbrev StoreAddr := Fin Config.storeSize

/-- The one durable store address the block uses (R8). -/
def Config.delayAddr : StoreAddr := ⟨0, by decide⟩

end Sys2Proof
end

