-- ==== Sys2Proof/Syntax.lean ====
section
/-! DEFINITION. The commands: one constructor per row of spec/opcode_table.json (30_encoding.md R61, R72). -/

namespace Sys2Proof

/-- The eight commands of 30_encoding.md R61. The operand of `setdly` and `setsave` is the argument byte `b[2]`
(R62); `none` is the 2-byte packet whose argument is absent (R63). -/
inductive Instr
  /-- `ON`, opcode 100 (40_dispatch.md R78). -/
  | on
  /-- `OFF`, opcode 101 (R79). -/
  | off
  /-- `ARM`, opcode 102 (R80). -/
  | arm
  /-- `SETDLY v`, opcode 103 (R81). -/
  | setdly (arg : Option Byte)
  /-- `SAVE`, opcode 104 (R82). -/
  | save
  /-- `SETSAVE v`, opcode 105 (R83). -/
  | setsave (arg : Option Byte)
  /-- `DISABLE`, opcode 106 (R84). -/
  | disable
  /-- `ENABLE`, opcode 107 (R85). -/
  | enable
  deriving DecidableEq, Repr

end Sys2Proof
end

