-- ==== Sys2Proof/WellFormed.lean ====
section
/-! DEFINITION. Which commands a packet can carry on a given node: what the parameters of 00_scope.md R7 ask of
an operand. -/

namespace Sys2Proof

/-- An absent argument stands for a command only under `ARG_ABSENT = DRAW` (30_encoding.md R63); a present one
needs a packet of three bytes, so `MAX_PAYLOAD` of at least 3 (R57, R69). -/
def argWellFormed (c : Config) : Option Byte → Bool
  | none => c.argAbsent == .draw
  | some _ => decide (3 ≤ c.maxPayload)

/-- The command can reach the dispatcher of node `c` as a packet. -/
def Instr.wellFormed (c : Config) (i : Instr) : Bool :=
  match i with
  | .on => true
  | .off => true
  | .arm => true
  | .setdly arg => argWellFormed c arg
  | .save => true
  | .setsave arg => argWellFormed c arg
  | .disable => true
  | .enable => true

end Sys2Proof
end

