-- ==== Sys2Proof/Decode.lean ====
section
/-! DEFINITION. The decoder of 30_encoding.md R60 to R65, total on every packet, the encoder of R69, and the
24-bit command word of R59. -/

namespace Sys2Proof

/-- What decoding a packet gives (R68): one of the four discard classes, or a command. -/
inductive DecodeClass
  /-- `ok = 0` (R60 test 1, 40_dispatch.md R75). -/
  | dropRxFail
  /-- Too short (R60 test 2, R63 under `DISCARD`, 40_dispatch.md R76). -/
  | dropShort
  /-- The address byte is not `FAMILY_ID` (R60 test 3, 40_dispatch.md R77). -/
  | dropAddr
  /-- An opcode outside 100 to 107 (R65, 40_dispatch.md R86). -/
  | unknown
  /-- One of the eight commands (R61). -/
  | command (i : Instr)
  deriving DecidableEq, Repr

/-- The argument of opcodes 103 and 105 (R62, R63): `b[2]` where the packet has it; where it is absent, a
command with the argument left open (`DRAW`) or the class `DROP_SHORT` (`DISCARD`). -/
def decodeArg (c : Config) (mk : Option Byte → Instr) : Option Byte → DecodeClass
  | some v => .command (mk (some v))
  | none =>
    match c.argAbsent with
    | .draw => .command (mk none)
    | .discard => .dropShort

/-- The opcode map of R61, with every other opcode unknown (R65). -/
def decodeOpcode (c : Config) (opc : Byte) (arg : Option Byte) : DecodeClass :=
  if opc = Config.opcodeOn then .command .on
  else if opc = Config.opcodeOff then .command .off
  else if opc = Config.opcodeArm then .command .arm
  else if opc = Config.opcodeSetdly then decodeArg c .setdly arg
  else if opc = Config.opcodeSave then .command .save
  else if opc = Config.opcodeSetsave then decodeArg c .setsave arg
  else if opc = Config.opcodeDisable then .command .disable
  else if opc = Config.opcodeEnable then .command .enable
  else .unknown

/-- The decode gate of R60, its tests in order; `b[3]` and later are never looked at (R64). -/
def decode (c : Config) (p : Packet) : DecodeClass :=
  if p.ok = false then .dropRxFail
  else
    match p.b with
    | [] => .dropShort
    | [_] => .dropShort
    | adr :: opc :: rest =>
      if adr ≠ c.familyId then .dropAddr
      else decodeOpcode c opc rest.head?

/-- The opcode of a command (R61). -/
def opcodeOf : Instr → Byte
  | .on => Config.opcodeOn
  | .off => Config.opcodeOff
  | .arm => Config.opcodeArm
  | .setdly _ => Config.opcodeSetdly
  | .save => Config.opcodeSave
  | .setsave _ => Config.opcodeSetsave
  | .disable => Config.opcodeDisable
  | .enable => Config.opcodeEnable

/-- The argument byte that follows the opcode, if any (R58, R62). -/
def argOf : Instr → Option Byte
  | .on => none
  | .off => none
  | .arm => none
  | .setdly arg => arg
  | .save => none
  | .setsave arg => arg
  | .disable => none
  | .enable => none

/-- The packet that carries a command (R69): `[FAMILY_ID, OPC]`, and the argument after it where the command has
one. -/
def encode (c : Config) (i : Instr) : Packet :=
  ⟨true, c.familyId :: opcodeOf i :: (argOf i).toList⟩

/-- Byte `k` of the command word `CW` of R59 counted from the top: `b[0] = CW[23:16]`, `b[1] = CW[15:8]`,
`b[2] = CW[7:0]`. -/
def commandWordByte (w k : Nat) : Byte := BitVec.ofNat 8 (w >>> (16 - 8 * k))

/-- The packet whose first three bytes are the command word `w` (R59). -/
def packetOfCommandWord (w : Nat) : Packet :=
  ⟨true, [commandWordByte w 0, commandWordByte w 1, commandWordByte w 2]⟩

/-- The parameters under which a command word of the opcode table is that command: the address bits of a row
"must equal FAMILY_ID" (R59), and `FAMILY_ID` is OPEN (R7), so the word's own address byte names it (log
entry 19). -/
def Config.withFamilyOf (c : Config) (w : Nat) : Config := { c with familyId := commandWordByte w 0 }

/-- The command a word of spec/opcode_table.json stands for, read by `decode` on a node whose `FAMILY_ID` is the
word's address byte. The word is the 24-bit `CW` of R59 whatever `nbits` says, since the bits above `nbits`
are zero. -/
def decodeTableWord (_nbits w : Nat) : Option Instr :=
  match decode (Config.node.withFamilyOf w) (packetOfCommandWord w) with
  | .command i => some i
  | .dropRxFail => none
  | .dropShort => none
  | .dropAddr => none
  | .unknown => none

end Sys2Proof
end

