-- ==== Sys2Proof/Machine/State.lean ====
section
/-! DEFINITION. Every piece of state of 10_state.md R15 as plain data, the reasons a step can stop, and the state
after reset (10_state.md R37). -/

namespace Sys2Proof.Machine

open Sys2Proof

/-- The scheduler sequencer `SPH` (10_state.md R25): the next micro-step of `SCHED`. -/
inductive Phase
  | boot
  | s1
  | s2
  | s3
  | s3a
  | s3b
  | s4
  deriving DecidableEq, Repr

/-- An event of the output trace `PINLOG` (10_state.md R21). -/
inductive PinEvent
  | pin (level : Bool)
  deriving DecidableEq, Repr

/-- An event of the store-write trace `STORELOG` (10_state.md R29, 20_memory.md R43). -/
inductive StoreEvent
  | store (addr : Nat) (v : Byte)
  deriving DecidableEq, Repr

/-- The model faults of 60_exceptions.md R128, the complete list. Each sets its sticky bit in `State`
(`raise Fault(F_x)`, 00_scope.md R10) and the machine goes on (R149): NO step of this model ends in
`Outcome.fault`. Safe: a faulted run refutes a claim and never proves one (R149). -/
inductive Fault
  /-- Code 1, `F_OVF_LOST`: raised by TICKER when a tick wraps the counter while `OVF_PEND = 1`. Safe. -/
  | ovfLost
  /-- Code 2, `F_CLOCK_WRAP`: raised by TICKER when the combined count reaches 2^64. Safe. -/
  | clockWrap
  /-- Code 3, `F_DEADLINE_WRAP`: raised by S3A when `NOW + Delta(DLY) >= 2^64`. Safe. -/
  | deadlineWrap
  deriving DecidableEq, Repr

/-- The reasons a step is refused. "This block refuses nothing" (00_scope.md R11, 40_dispatch.md R89). -/
inductive Refusal
  /-- An instruction with no meaning yet, by its table mnemonic; raised by `exec` alone, and by no arm of it
  now. Safe. -/
  | notModelled (mnemonic : String)
  deriving DecidableEq, Repr

/-- The block's state (10_state.md R15), with the parameters and the turns to come beside it. -/
structure State where
  /-- The parameters of 00_scope.md R7; no step writes them (log entry 1). -/
  cfg : Config
  /-- `EN`, the gate (R16). -/
  en : Bool
  /-- `PEND`, a delayed-on episode is requested (R17). -/
  pend : Bool
  /-- `DLY`, the off-delay in units of 60 seconds (R18). -/
  dly : Byte
  /-- `DEADLINE`, 0 for no pending off job (R19). -/
  deadline : Word64
  /-- `DIRTY`, a store write is requested (R20). -/
  dirty : Bool
  /-- `OVR`, which exists only under `OVR_MODE = SEPARATE` (R30, log entry 14). -/
  ovr : Bool
  /-- `OUT`, the output latch (R21). -/
  out : Bool
  /-- `TICK`, an integer in [0, TPO) (R22). -/
  tick : Nat
  /-- `OVF`, the overflow counter (R23). -/
  ovf : Word64
  /-- `OVF_PEND`, the timer-overflow request (R24). -/
  ovfPend : Bool
  /-- `RXBUF`, at most one received packet; `RX_PEND` is `State.rxPend` (R27, log entry 12). -/
  rxBuf : Option Packet
  /-- `SPH`, the scheduler sequencer (R25). -/
  sph : Phase
  /-- `NOW`, the clock value latched by S1 (R25). -/
  now : Word64
  /-- `G`, the gate latched by S3 (R25). -/
  g : Bool
  /-- `F_OVF_LOST` (R26). -/
  fOvfLost : Bool
  /-- `F_CLOCK_WRAP` (R26). -/
  fClockWrap : Bool
  /-- `F_DEADLINE_WRAP` (R26). -/
  fDeadlineWrap : Bool
  /-- The durable byte store (R29), a list of cells in the canonical form `Memory.wf` (log entry 11). -/
  store : List Host.Cell
  /-- `PINLOG`, oldest event first (R21). -/
  pinLog : List PinEvent
  /-- `STORELOG`, oldest event first (R29). -/
  storeLog : List StoreEvent
  /-- The model's own: the turns to come, next one first (log entry 4). -/
  turns : List Turn
  /-- The model's own: the number of the next free value (log entry 10). -/
  draws : Nat
  deriving DecidableEq, Repr

/-- The machine right after the first power-on and reset, before BOOT (10_state.md R37, R26; log entries 2, 3, 6,
7, 8, 10, 11). -/
def State.reset : State where
  cfg := Config.node
  en := Config.node.enReset
  pend := false
  dly := 0
  deadline := 0
  dirty := false
  ovr := false
  out := false
  tick := Config.freeTick 0 % Config.node.tpo
  ovf := 0
  ovfPend := false
  rxBuf := none
  sph := .boot
  now := Config.freeNow 0
  g := Config.freeGate 0
  fOvfLost := false
  fClockWrap := false
  fDeadlineWrap := false
  store := []
  pinLog := []
  storeLog := []
  turns := []
  draws := 1

end Sys2Proof.Machine
end

