-- ==== Sys2Proof/Machine/Operands.lean ====
section
/-! DEFINITION. What the steps compute from their operands: the argument of a command, the length of a countdown,
and the combined cycle count. -/

namespace Sys2Proof.Machine

open Sys2Proof

/-- `ARG` of 30_encoding.md R62; an absent argument is a `draw u8` (R63, log entry 9). -/
def argValue (arg : Option Byte) (s : State) : Byte :=
  match arg with
  | some v => v
  | none => Config.freeArg s.draws

/-- The state once the argument is read: a draw uses up one free value, a present argument none. -/
def afterArg (arg : Option Byte) (s : State) : State :=
  match arg with
  | some _ => s
  | none => { s with draws := s.draws + 1 }

/-- `seconds_to_cycles(s) = s * TPS`, a natural number (42_cycle_clock.md R119). -/
def secondsToCycles (c : Config) (seconds : Nat) : Nat := seconds * c.tps

/-- `Delta(d)`, `seconds_to_cycles` of `60 * d`, a natural number (41_scheduler.md R100). -/
def delta (c : Config) (d : Byte) : Nat := secondsToCycles c (Config.delayScale * d.toNat)

/-- The sum `NOW + Delta(DLY)` of S3A, before it is reduced (41_scheduler.md R99). -/
def deadlineSum (s : State) : Nat := s.now.toNat + delta s.cfg s.dly

/-- The combined count `N = (OVF + OVF_PEND) * TPO + TICK`, a natural number (42_cycle_clock.md R121). -/
def combinedCount (s : State) : Nat := (s.ovf.toNat + s.ovfPend.toNat) * s.cfg.tpo + s.tick

/-- `ClockRead()`, the atomic snapshot `N mod 2^64` (42_cycle_clock.md R118). -/
def clockRead (s : State) : Word64 := BitVec.ofNat 64 (combinedCount s)

end Sys2Proof.Machine
end

