-- ==== Sys2Proof/Machine/Flags.lean ====
section
/-! DEFINITION. The conditions the steps test: requests, wraps, the deadline comparison, and when a turn of an
agent is enabled. The block has no condition codes (10_state.md R35). -/

namespace Sys2Proof.Machine

open Sys2Proof

/-- `RX_PEND`: 1 exactly when `RXBUF` holds a packet (10_state.md R27). -/
def State.rxPend (s : State) : Bool := s.rxBuf.isSome

/-- The next tick overflows the counter (42_cycle_clock.md R113, R114): `TICK + 1 < TPO` fails. -/
def tickWraps (s : State) : Bool := !decide (s.tick + 1 < s.cfg.tpo)

/-- The next tick loses an overflow (42_cycle_clock.md R115). -/
def overflowLost (s : State) : Bool := tickWraps s && s.ovfPend

/-- The combined count is past the 64-bit clock (42_cycle_clock.md R116). -/
def clockExhausted (s : State) : Bool := decide (2 ^ 64 ≤ combinedCount s)

/-- The deadline sum does not fit in 64 bits (41_scheduler.md R99, R100). -/
def deadlineWraps (s : State) : Bool := decide (2 ^ 64 ≤ deadlineSum s)

/-- The test of S3B: `DEADLINE != 0 and NOW >= DEADLINE`, unsigned (41_scheduler.md R101). -/
def deadlineExpired (s : State) : Bool := decide (s.deadline ≠ 0) && decide (s.deadline.toNat ≤ s.now.toNat)

/-- Interrupts are enabled from the end of BOOT (60_exceptions.md R132, 70_reset_and_hazards.md R154). -/
def interruptsEnabled (s : State) : Bool := decide (s.sph ≠ .boot)

/-- `HOST rx p` is enabled (40_dispatch.md R73): the buffer is empty, and `p` is a packet of 30_encoding.md R57, so
not longer than `MAX_PAYLOAD`. -/
def rxEnabled (p : Packet) (s : State) : Bool := !s.rxPend && decide (p.len ≤ s.cfg.maxPayload)

/-- `TICKER` is enabled: always, but for an overflow that would be lost under `OVF_LOSS_MODE = EXCLUDED`
(42_cycle_clock.md R113, R115). -/
def tickerEnabled (s : State) : Bool := !(decide (s.cfg.ovfLossMode = .excluded) && overflowLost s)

/-- The turn's agent has an enabled step: R113, R117, R74, R130, R95 with R154, R73, R153. -/
def turnEnabled (t : Turn) (s : State) : Bool :=
  match t with
  | .ticker => tickerEnabled s
  | .ovfsvc => s.ovfPend && interruptsEnabled s
  | .dispatch => s.rxPend && interruptsEnabled s
  | .sersvc => interruptsEnabled s
  | .sched => true
  | .rx p => rxEnabled p s
  | .reset => true

end Sys2Proof.Machine
end

