-- ==== Sys2Proof/Machine/Ops.lean ====
section
/-! DEFINITION. The named operations over the store and the registers, handler entry and return, and the choice of
the next turn. -/

namespace Sys2Proof.Machine

open Sys2Proof

/-! ### The durable store: a list of cells in one canonical form -/

/-- What address `a` of a cell list reads as; an unlisted address reads as `init`. -/
def Memory.read (init : Byte) : List Host.Cell → Nat → Byte
  | [], _ => init
  | (k, v) :: m, a => if k = a then v else Memory.read init m a

/-- Write `v` at `a`, in canonical form: a cell that reads as an unlisted one is not listed. -/
def Memory.write (init : Byte) : List Host.Cell → Nat → Byte → List Host.Cell
  | [], a, v => if v = init then [] else [(a, v)]
  | (k, w) :: m, a, v =>
    if a < k then (if v = init then (k, w) :: m else (a, v) :: (k, w) :: m)
    else if k = a then (if v = init then m else (a, v) :: m)
    else (k, w) :: Memory.write init m a v

/-- The canonical form from address `lo` on: addresses strictly rising and below `storeSize`, no cell that reads as
an unlisted one. -/
def Memory.wfFrom (init : Byte) : Nat → List Host.Cell → Bool
  | _, [] => true
  | lo, (a, v) :: m =>
    decide (lo ≤ a) && decide (a < Config.storeSize) && decide (v ≠ init) && Memory.wfFrom init (a + 1) m

/-- The canonical form of the store's cell list. -/
def Memory.wf (init : Byte) (m : List Host.Cell) : Bool := Memory.wfFrom init 0 m

/-- `MemRead(a, 1)` (20_memory.md R42): no side effect; before the first write it reads `STORE_INIT` (10_state.md
R29). -/
def memRead (a : StoreAddr) (s : State) : Byte := Memory.read s.cfg.storeInit s.store a.val

/-- `MemWrite(a, 1, v)` (20_memory.md R43, R44): the cell and one event of `STORELOG`, whatever the cell held. -/
def memWrite (a : StoreAddr) (v : Byte) (s : State) : State :=
  { s with
    store := Memory.write s.cfg.storeInit s.store a.val v
    storeLog := s.storeLog ++ [.store a.val v] }

/-! ### Registers -/

/-- `PinWrite(b)` (00_scope.md R10, 10_state.md R21): the latch and one event of `PINLOG`, whatever the latch held. -/
def pinWrite (b : Bool) (s : State) : State :=
  { s with out := b, pinLog := s.pinLog ++ [.pin b] }

/-- `output_enabled_override = false` of opcodes 100 and 101: `EN <- 0` in ALIAS mode, `OVR <- 0` in SEPARATE mode
(40_dispatch.md R78, R79). -/
def writeOverride (s : State) : State :=
  match s.cfg.ovrMode with
  | .aliasEnable => { s with en := false }
  | .separate => { s with ovr := false }

/-- `raise Fault(f)`: set the sticky bit of 60_exceptions.md R128 and nothing else. -/
def raiseFault (f : Fault) (s : State) : State :=
  match f with
  | .ovfLost => { s with fOvfLost := true }
  | .clockWrap => { s with fClockWrap := true }
  | .deadlineWrap => { s with fDeadlineWrap := true }

/-- `if cond then raise Fault(f)`. -/
def raiseWhen (cond : Bool) (f : Fault) (s : State) : State := if cond then raiseFault f s else s

/-- The code numbers of 60_exceptions.md R128. -/
def faultCode : Fault → Nat
  | .ovfLost => 1
  | .clockWrap => 2
  | .deadlineWrap => 3

/-- `SPH <- phase` (00_scope.md R10). -/
def goTo (ph : Phase) (s : State) : State := { s with sph := ph }

/-- `RXBUF <- empty; RX_PEND <- 0` (40_dispatch.md R87). -/
def flush (s : State) : State := { s with rxBuf := none }

/-! ### Taking a handler and returning from it

The block takes no exception (60_exceptions.md R129). What it takes are interrupt handlers. -/

/-- Handler entry "saves nothing and changes no mode register"; there is no vector (60_exceptions.md R137). -/
def handlerEntry (s : State) : State := s

/-- Handler return: "no explicit return operation and no state to restore" (60_exceptions.md R138). -/
def handlerReturn (s : State) : State := s

/-- `f` on the next state of an outcome; a fault or a refusal stays as it is. -/
def mapNext (f : State → State) (o : Host.Outcome State Fault Refusal) : Host.Outcome State Fault Refusal :=
  match o with
  | .next s => .next (f s)
  | .fault r => .fault r
  | .refused r => .refused r

/-! ### Whose turn it is (00_scope.md R6, 20_memory.md R51, 60_exceptions.md R134) -/

/-- The turn that the next step performs: the first listed one, else a free value (log entry 4). -/
def nextTurn (s : State) : Turn :=
  match s.turns with
  | t :: _ => t
  | [] => Config.freeTurn s.draws

/-- The state once that turn is taken off the list, or its free value is used up. -/
def afterTurn (s : State) : State :=
  match s.turns with
  | _ :: ts => { s with turns := ts }
  | [] => { s with draws := s.draws + 1 }

end Sys2Proof.Machine
end

