-- ==== Sys2Proof/Machine/Clock.lean ====
section
/-! DEFINITION. The steps of the cycle clock: one tick of `TICKER` (42_cycle_clock.md R113) and the overflow handler
`OVFSVC` (R117). -/

namespace Sys2Proof.Machine

open Sys2Proof

/-- The counter's part of a tick (R113, R114): count, or wrap to 0 and set the overflow request; a wrap on a set
request loses an overflow (R115). -/
def countTick (s : State) : State :=
  if tickWraps s then
    if s.ovfPend then raiseFault .ovfLost { s with tick := 0 }
    else { s with tick := 0, ovfPend := true }
  else { s with tick := s.tick + 1 }

/-- `TICKER`, one tick (R113): the count, then the exhaustion test on what the count left (R116). -/
def tickerStep (s : State) : State :=
  let counted := countTick s
  raiseWhen (clockExhausted counted) .clockWrap counted

/-- The body of the timer-overflow handler (R117): `OVF <- (OVF + 1) mod 2^64; OVF_PEND <- 0`. -/
def serviceOverflow (s : State) : State := { s with ovf := s.ovf + 1, ovfPend := false }

/-- `OVFSVC` (R117), as one handler (60_exceptions.md R137, R138). -/
def ovfsvcStep (s : State) : State := handlerReturn (serviceOverflow (handlerEntry s))

end Sys2Proof.Machine
end

