-- ==== Sys2Proof/Machine/Commands.lean ====
section
/-! DEFINITION. The meaning of each of the eight commands (40_dispatch.md R78 to R85), without the flush that ends
every DISPATCH step (R87), which `dispatchStep` adds. -/

namespace Sys2Proof.Machine

open Sys2Proof

/-- `ON` (R78): the override write, then `PinWrite(1)` (R90). -/
def execOn (s : State) : Host.Outcome State Fault Refusal :=
  .next (pinWrite true (writeOverride s))

/-- `OFF` (R79): the override write, then `PinWrite(0)` (R90). -/
def execOff (s : State) : Host.Outcome State Fault Refusal :=
  .next (pinWrite false (writeOverride s))

/-- `ARM` (R80): `PEND <- 1`. -/
def execArm (s : State) : Host.Outcome State Fault Refusal :=
  .next { s with pend := true }

/-- `SETDLY v` (R81): `DLY <- v`. -/
def execSetdly (arg : Option Byte) (s : State) : Host.Outcome State Fault Refusal :=
  .next { afterArg arg s with dly := argValue arg s }

/-- `SAVE` (R82): `DIRTY <- 1`. -/
def execSave (s : State) : Host.Outcome State Fault Refusal :=
  .next { s with dirty := true }

/-- `SETSAVE v` (R83): `DLY <- v; DIRTY <- 1`, in one step. -/
def execSetsave (arg : Option Byte) (s : State) : Host.Outcome State Fault Refusal :=
  .next { afterArg arg s with dly := argValue arg s, dirty := true }

/-- `DISABLE` (R84): `EN <- 0`. -/
def execDisable (s : State) : Host.Outcome State Fault Refusal :=
  .next { s with en := false }

/-- `ENABLE` (R85): `EN <- 1`. -/
def execEnable (s : State) : Host.Outcome State Fault Refusal :=
  .next { s with en := true }

end Sys2Proof.Machine
end

