-- ==== Sys2Proof/Machine/Dispatch.lean ====
section
/-! DEFINITION. One arm per command (30_encoding.md R61). -/

namespace Sys2Proof.Machine

open Sys2Proof

def exec (i : Instr) (s : State) : Host.Outcome State Fault Refusal :=
  match i with
  | .on => Sys2Proof.Machine.execOn s
  | .off => Sys2Proof.Machine.execOff s
  | .arm => Sys2Proof.Machine.execArm s
  | .setdly arg => Sys2Proof.Machine.execSetdly arg s
  | .save => Sys2Proof.Machine.execSave s
  | .setsave arg => Sys2Proof.Machine.execSetsave arg s
  | .disable => Sys2Proof.Machine.execDisable s
  | .enable => Sys2Proof.Machine.execEnable s

end Sys2Proof.Machine
end

