-- ==== Sys2Proof/Machine/Scheduler.lean ====
section
/-! DEFINITION. The main loop `SCHED`: BOOT (70_reset_and_hazards.md R154) and the six micro-steps of
41_scheduler.md R94. -/

namespace Sys2Proof.Machine

open Sys2Proof

/-- BOOT (R154): `DLY <- MemRead(0, 1); SPH <- S1`. -/
def bootStep (s : State) : State := goTo .s1 { s with dly := memRead Config.delayAddr s }

/-- S1 (R96): `NOW <- ClockRead(); SPH <- S2`. -/
def schedS1 (s : State) : State := goTo .s2 { s with now := clockRead s }

/-- The dirty latch (R97): clear `DIRTY`, then sample `DLY` and write it, in one step. -/
def dirtyLatch (s : State) : State :=
  if s.dirty then
    let cleared := { s with dirty := false }
    memWrite Config.delayAddr cleared.dly cleared
  else s

/-- S2 (R97). -/
def schedS2 (s : State) : State := goTo .s3 (dirtyLatch s)

/-- S3 (R98): `G <- EN`, then S3A if `G = 1`, else S4. -/
def schedS3 (s : State) : State :=
  let sampled := { s with g := s.en }
  goTo (if sampled.g then .s3a else .s4) sampled

/-- The arm latch (R99): start an episode if one is requested. -/
def armLatch (s : State) : State :=
  if s.pend then
    let taken := { s with pend := false }
    let checked := raiseWhen (deadlineWraps taken) .deadlineWrap taken
    pinWrite true { checked with deadline := BitVec.ofNat 64 (deadlineSum taken) }
  else s

/-- S3A (R99). -/
def schedS3a (s : State) : State := goTo .s3b (armLatch s)

/-- The deadline comparator (R101): clear the deadline and deassert the output, in one step. -/
def comparator (s : State) : State :=
  if deadlineExpired s then pinWrite false { s with deadline := 0 } else s

/-- S3B (R101). -/
def schedS3b (s : State) : State := goTo .s1 (comparator s)

/-- S4 (R102), which hands over to S3B where the comparator is not gated (R103). -/
def schedS4 (s : State) : State :=
  goTo (if s.cfg.deadlineGated then .s1 else .s3b) { s with pend := false }

/-- The step of `SCHED`: the micro-step that `SPH` names (R94, 10_state.md R25). -/
def schedStep (s : State) : State :=
  match s.sph with
  | .boot => bootStep s
  | .s1 => schedS1 s
  | .s2 => schedS2 s
  | .s3 => schedS3 s
  | .s3a => schedS3a s
  | .s3b => schedS3b s
  | .s4 => schedS4 s

end Sys2Proof.Machine
end

