-- ==== Sys2Proof/Machine/Agents.lean ====
section
/-! DEFINITION. The remaining agents (DISPATCH, SERSVC, HOST), one turn of any agent, and where the step finds its
next command. -/

namespace Sys2Proof.Machine

open Sys2Proof

/-- What DISPATCH does for a decode class (40_dispatch.md R74): nothing for a discard class (R75, R76, R77, R86),
the command's meaning for a command (R78 to R85). -/
def performClass (cls : DecodeClass) (s : State) : Host.Outcome State Fault Refusal :=
  match cls with
  | .dropRxFail => .next s
  | .dropShort => .next s
  | .dropAddr => .next s
  | .unknown => .next s
  | .command i => exec i s

/-- `DISPATCH` (40_dispatch.md R74): decode the buffered packet, perform its class, and flush in every case (R87).
With no packet in the buffer the step is not enabled, and nothing happens. -/
def dispatchStep (s : State) : Host.Outcome State Fault Refusal :=
  match s.rxBuf with
  | none => .next s
  | some p =>
    mapNext (fun t => handlerReturn (flush t)) (performClass (decode s.cfg p) (handlerEntry s))

/-- `SERSVC` (60_exceptions.md R130): "an atomic step that changes no register". -/
def sersvcStep (s : State) : State := handlerReturn (handlerEntry s)

/-- `HOST rx p` (40_dispatch.md R73): `RXBUF <- p; RX_PEND <- 1`. -/
def rxStep (p : Packet) (s : State) : State := { s with rxBuf := some p }

/-- `TICK_RESET`: draw `n`, in [0, TPO) for every `TPO >= 1` (10_state.md R22, log entry 6). -/
def tickReset (c : Config) (n : Nat) : Nat := Config.freeTick n % c.tpo

/-- Reset (70_reset_and_hazards.md R151, 10_state.md R37): every register at its reset value; `STORE[0]`, the
traces and the fault bits keep theirs. -/
def resetStep (s : State) : State :=
  { s with
    en := s.cfg.enReset
    pend := false
    dly := 0
    deadline := 0
    dirty := false
    ovr := false
    out := false
    tick := tickReset s.cfg s.draws
    ovf := 0
    ovfPend := false
    rxBuf := none
    sph := .boot
    now := Config.freeNow s.draws
    g := Config.freeGate s.draws
    draws := s.draws + 1 }

/-- The step of an agent whose turn it is and whose step is enabled (00_scope.md R6). -/
def performTurn (t : Turn) (s : State) : Host.Outcome State Fault Refusal :=
  match t with
  | .ticker => .next (tickerStep s)
  | .ovfsvc => .next (ovfsvcStep s)
  | .dispatch => dispatchStep s
  | .sersvc => .next (sersvcStep s)
  | .sched => .next (schedStep s)
  | .rx p => .next (rxStep p s)
  | .reset => .next (resetStep s)

/-- A turn: the agent's step where it is enabled; an agent with no enabled step is idle (00_scope.md R11, log
entry 5). -/
def runTurn (t : Turn) (s : State) : Host.Outcome State Fault Refusal :=
  if turnEnabled t s then performTurn t s else .next s

/-- Where the next step finds a command (log entry 19): the packet of command word `w` in `RXBUF`, DISPATCH's turn
next, interrupts enabled (`SPH` at S1 where it stood at BOOT), and `FAMILY_ID` the word's address byte. -/
def placeCommandWord (s : State) (w : Nat) : State :=
  { s with
    cfg := s.cfg.withFamilyOf w
    rxBuf := some (packetOfCommandWord w)
    sph := if s.sph = .boot then .s1 else s.sph
    turns := .dispatch :: s.turns }

end Sys2Proof.Machine
end

