-- ==== Sys2Proof/Machine/Step.lean ====
section
/-! DEFINITION. One step of the block: one turn of one agent (20_memory.md R51, 60_exceptions.md R135). -/

namespace Sys2Proof.Machine

open Sys2Proof

/-- The step: the next turn of the interleaving, performed by its agent. -/
def step (s : State) : Host.Outcome State Fault Refusal := runTurn (nextTurn s) (afterTurn s)

/-- `s` with the command word `w` of R59 where the very next step runs it; the word is the 24-bit `CW` whatever
`nbits` says. -/
def State.withFetchWord (s : State) (_nbits w : Nat) : State := placeCommandWord s w

end Sys2Proof.Machine
end

