-- ==== Sys2Proof/Safety.lean ====
section
/-! DEFINITION. What counts as a safe state and a safe run, in the terms claims use: fault-free and quiescent states,
the invariant of the block, runs of the interleaving and their fairness. -/

namespace Sys2Proof.Machine

open Sys2Proof

/-- Every fault bit is 0: the premise of a good outcome (60_exceptions.md R149). -/
def FaultFree (s : State) : Prop := s.fOvfLost = false ∧ s.fClockWrap = false ∧ s.fDeadlineWrap = false

/-- A quiescent state (70_reset_and_hazards.md R170). -/
def Quiescent (s : State) : Prop :=
  s.sph = .s1 ∧ s.rxPend = false ∧ s.ovfPend = false ∧ FaultFree s

/-- The value of the last store write ever, `STORE_INIT` before the first (10_state.md R29, 20_memory.md R44). -/
def lastStored (s : State) : Byte :=
  match s.storeLog.getLast? with
  | some (.store _ v) => v
  | none => s.cfg.storeInit

/-- What every reachable state satisfies. -/
structure Inv (s : State) : Prop where
  /-- The parameters are in their ranges (00_scope.md R7). -/
  params : s.cfg.WF
  /-- `TICK` is in [0, TPO) (10_state.md R22). -/
  tick_lt : s.tick < s.cfg.tpo
  /-- A buffered packet is one the transceiver delivers (30_encoding.md R57). -/
  packet_fits : ∀ p, s.rxBuf = some p → p.len ≤ s.cfg.maxPayload
  /-- The store is in canonical form. -/
  store_wf : Memory.wf s.cfg.storeInit s.store = true
  /-- The store reads as the last write to it (20_memory.md R43). -/
  store_last : memRead Config.delayAddr s = lastStored s
  /-- S3A is reached only through an open gate (41_scheduler.md R98). -/
  gate_open : s.sph = .s3a → s.g = true
  /-- S4 is reached only through a closed gate (R98). -/
  gate_closed : s.sph = .s4 → s.g = false
  /-- With the gate closed, S3B is reached only where the comparator is not gated (R101, R103). -/
  comparator_gated : s.sph = .s3b → s.g = true ∨ s.cfg.deadlineGated = false
  /-- `OVR` is only ever written to 0 (10_state.md R30). -/
  ovr_zero : s.ovr = false

/-- In state `s` the next step is a step of the agent of turn `t`, not an idle turn. -/
def TakesTurn (t : Turn) (s : State) : Prop := nextTurn s = t ∧ turnEnabled t s = true

/-- The next step is the scheduler micro-step of phase `ph`. -/
def SchedAt (ph : Phase) (s : State) : Prop := TakesTurn .sched s ∧ s.sph = ph

/-- The next step starts an episode: S3A with a request (41_scheduler.md R99). -/
def StartsEpisode (s : State) : Prop := SchedAt .s3a s ∧ s.pend = true

/-- The next step is a firing of the deadline comparator: S3B past a nonzero deadline (41_scheduler.md R101). -/
def ComparatorFires (s : State) : Prop := SchedAt .s3b s ∧ deadlineExpired s = true

/-- The next step is a DISPATCH step whose packet decodes to class `cls` (40_dispatch.md R74). -/
def Dispatches (cls : DecodeClass) (s : State) : Prop :=
  TakesTurn .dispatch s ∧ ∃ p, s.rxBuf = some p ∧ decode s.cfg p = cls

/-- `r 0, …, r n` is a run of `n` steps. -/
def IsRun (r : Nat → State) (n : Nat) : Prop := ∀ i, i < n → step (r i) = .next (r (i + 1))

/-- No step among the first `n` is a reset: one lifetime of the clock (70_reset_and_hazards.md R152). -/
def NoReset (r : Nat → State) (n : Nat) : Prop := ∀ i, i < n → nextTurn (r i) ≠ .reset

/-- How many of the first `n` steps are steps of the agent of turn `t`. -/
def stepsOf (t : Turn) (r : Nat → State) : Nat → Nat
  | 0 => 0
  | n + 1 => stepsOf t r n + (if nextTurn (r n) = t ∧ turnEnabled t (r n) = true then 1 else 0)

/-! ### Infinite runs under a schedule

The turns of `State` end in free values, so an infinite interleaving (70_reset_and_hazards.md R170) is written with its
schedule beside it: `sched i` is the turn of step `i`. -/

/-- `r` is the infinite run in which step `i` is the turn `sched i` (20_memory.md R51). -/
def IsInterleaving (sched : Nat → Turn) (r : Nat → State) : Prop :=
  ∀ i, runTurn (sched i) (r i) = .next (r (i + 1))

/-- Weak fairness for the agent of turn `t` (70_reset_and_hazards.md R167): infinitely often its step is taken, or is not
enabled. -/
def FairFor (t : Turn) (sched : Nat → Turn) (r : Nat → State) : Prop :=
  ∀ n, ∃ m, n ≤ m ∧ ((sched m = t ∧ turnEnabled t (r m) = true) ∨ turnEnabled t (r m) = false)

/-- The fairness the spec asks of a run (70_reset_and_hazards.md R167): of SCHED, TICKER, DISPATCH and OVFSVC, none of
HOST. -/
def WeaklyFair (sched : Nat → Turn) (r : Nat → State) : Prop :=
  FairFor .sched sched r ∧ FairFor .ticker sched r ∧ FairFor .dispatch sched r ∧ FairFor .ovfsvc sched r

end Sys2Proof.Machine
end

