-- ==== Sys2Proof/Certificates/Slice0/Obligations.lean ====
section
/-! DEFINITION. The statements for the provers, rule by rule of spec/. -/

open Sys2Proof Sys2Proof.Machine

/-! ### Encoding and decoding (30_encoding.md) -/

/-- 30_encoding.md R69 with R60 to R63: the packet that encodes a command decodes to that command, for every operand the
node admits. -/
def Obligations.DecodeOfEncodeIsTheCommand : Prop :=
  ∀ (c : Config) (i : Instr), i.wellFormed c = true → decode c (encode c i) = .command i

/-- 30_encoding.md R64, R69: a deliverable packet that decodes to a command begins with that command's encoding, and the
command is well-formed. -/
def Obligations.DecodedPacketBeginsWithItsEncoding : Prop :=
  ∀ (c : Config) (p : Packet) (i : Instr), c.WF → p.len ≤ c.maxPayload → decode c p = .command i →
    p.ok = true ∧ (encode c i).b = p.b.take (encode c i).len ∧ i.wellFormed c = true

/-- 30_encoding.md R60, with the map of R61 for its last test, the missing argument of R63 and every other opcode of
R65. -/
def Obligations.DecodeGateTestsInOrder : Prop :=
  ∀ (c : Config) (p : Packet),
    (p.ok = false → decode c p = .dropRxFail) ∧
    (p.ok = true → p.len < 2 → decode c p = .dropShort) ∧
    (∀ (adr opc : Byte) (rest : List Byte), p.ok = true → p.b = adr :: opc :: rest →
      (adr ≠ c.familyId → decode c p = .dropAddr) ∧
      (adr = c.familyId →
        (opc = 100 → decode c p = .command .on) ∧
        (opc = 101 → decode c p = .command .off) ∧
        (opc = 102 → decode c p = .command .arm) ∧
        (∀ v more, opc = 103 → rest = v :: more → decode c p = .command (.setdly (some v))) ∧
        (opc = 103 → rest = [] → c.argAbsent = .draw → decode c p = .command (.setdly none)) ∧
        (opc = 103 → rest = [] → c.argAbsent = .discard → decode c p = .dropShort) ∧
        (opc = 104 → decode c p = .command .save) ∧
        (∀ v more, opc = 105 → rest = v :: more → decode c p = .command (.setsave (some v))) ∧
        (opc = 105 → rest = [] → c.argAbsent = .draw → decode c p = .command (.setsave none)) ∧
        (opc = 105 → rest = [] → c.argAbsent = .discard → decode c p = .dropShort) ∧
        (opc = 106 → decode c p = .command .disable) ∧
        (opc = 107 → decode c p = .command .enable) ∧
        (opc.toNat < 100 ∨ 107 < opc.toNat → decode c p = .unknown)))

/-- 40_dispatch.md R86, 30_encoding.md R65: every opcode outside 100 to 107 (below 0x64 or above 0x6B) is unknown; such a
packet changes nothing but the receive buffer, which is flushed. -/
def Obligations.UnknownOpcodesAreDiscarded : Prop :=
  ∀ (s : State) (opc : Byte) (rest : List Byte),
    s.rxBuf = some ⟨true, s.cfg.familyId :: opc :: rest⟩ → (opc.toNat ≤ 0x63 ∨ 0x6C ≤ opc.toNat) →
      decode s.cfg ⟨true, s.cfg.familyId :: opc :: rest⟩ = .unknown ∧
      dispatchStep s = .next { s with rxBuf := none }

/-- 30_encoding.md R63: opcode 103 or 105 in a 2-byte packet, under each `ARG_ABSENT`. Under `DRAW` the value written is
a free value (log entry 9). -/
def Obligations.MissingArgumentIsDrawnOrDiscarded : Prop :=
  State.reset.cfg.argAbsent = .draw ∧
  ∀ s : State,
    (s.rxBuf = some ⟨true, [s.cfg.familyId, 103]⟩ →
      (s.cfg.argAbsent = .draw →
        dispatchStep s = .next { s with dly := Config.freeArg s.draws, draws := s.draws + 1, rxBuf := none }) ∧
      (s.cfg.argAbsent = .discard →
        decode s.cfg ⟨true, [s.cfg.familyId, 103]⟩ = .dropShort ∧ dispatchStep s = .next { s with rxBuf := none })) ∧
    (s.rxBuf = some ⟨true, [s.cfg.familyId, 105]⟩ →
      (s.cfg.argAbsent = .draw →
        dispatchStep s =
          .next { s with dly := Config.freeArg s.draws, dirty := true, draws := s.draws + 1, rxBuf := none }) ∧
      (s.cfg.argAbsent = .discard →
        decode s.cfg ⟨true, [s.cfg.familyId, 105]⟩ = .dropShort ∧ dispatchStep s = .next { s with rxBuf := none }))

/-- 30_encoding.md R64: bytes from `b[3]` on never matter, and `b[2]` matters only to opcodes 103 and 105. -/
def Obligations.BytesBeyondTheArgumentAreIgnored : Prop :=
  ∀ (c : Config) (adr opc : Byte),
    (∀ v more, decode c ⟨true, adr :: opc :: v :: more⟩ = decode c ⟨true, [adr, opc, v]⟩) ∧
    (opc ≠ 103 → opc ≠ 105 → ∀ more, decode c ⟨true, adr :: opc :: more⟩ = decode c ⟨true, [adr, opc]⟩)

/-- Words written out from the encoding strings of spec/opcode_table.json (30_encoding.md R59, R61), with address bits of
several values, decode to their commands. -/
def Obligations.HandWrittenWordsDecode : Prop :=
  decodeTableWord 24 0b101001010110010000000000 = some .on ∧
  decodeTableWord 24 0b000000000110010111111111 = some .off ∧
  decodeTableWord 24 0b101001010110011010011001 = some .arm ∧
  decodeTableWord 24 0b101001010110011100101010 = some (.setdly (some 42)) ∧
  decodeTableWord 24 0b111111110110100000000000 = some .save ∧
  decodeTableWord 24 0b101001010110100111111111 = some (.setsave (some 255)) ∧
  decodeTableWord 24 0b101001010110101000000000 = some .disable ∧
  decodeTableWord 24 0b101001010110101100000000 = some .enable ∧
  decodeTableWord 24 0b101001010110001100000000 = none ∧
  decodeTableWord 24 0b101001010110110000000000 = none

/-! ### What each command does, and that it changes nothing else (40_dispatch.md R78 to R85) -/

/-- 40_dispatch.md R78, R79: pseudocode and flags written of ON and OFF, in both settings of `OVR_MODE`. Every register,
trace and store byte not named in the update is unchanged. -/
def Obligations.OnAndOffWriteTheOverrideAndTheOutput : Prop :=
  ∀ s : State,
    (s.cfg.ovrMode = .aliasEnable →
      exec .on s = .next { s with en := false, out := true, pinLog := s.pinLog ++ [.pin true] } ∧
      exec .off s = .next { s with en := false, out := false, pinLog := s.pinLog ++ [.pin false] }) ∧
    (s.cfg.ovrMode = .separate →
      exec .on s = .next { s with ovr := false, out := true, pinLog := s.pinLog ++ [.pin true] } ∧
      exec .off s = .next { s with ovr := false, out := false, pinLog := s.pinLog ++ [.pin false] })

/-- 40_dispatch.md R80, R82, R84, R85: pseudocode and flags written of ARM, SAVE, DISABLE and ENABLE. Each writes its one
flag; every other register, the traces and the store are unchanged. -/
def Obligations.ArmSaveDisableEnableWriteOneFlag : Prop :=
  ∀ s : State,
    exec .arm s = .next { s with pend := true } ∧
    exec .save s = .next { s with dirty := true } ∧
    exec .disable s = .next { s with en := false } ∧
    exec .enable s = .next { s with en := true }

/-- 40_dispatch.md R81, R83: pseudocode and flags written of SETDLY and SETSAVE. Every register, trace and store byte not
named in the update is unchanged. An absent argument is the free value `freeArg` (30_encoding.md R63, log entry 9). -/
def Obligations.SetdlyAndSetsaveWriteTheDelay : Prop :=
  ∀ s : State,
    (∀ v : Byte, exec (.setdly (some v)) s = .next { s with dly := v }) ∧
    (∀ v : Byte, exec (.setsave (some v)) s = .next { s with dly := v, dirty := true }) ∧
    exec (.setdly none) s = .next { s with dly := Config.freeArg s.draws, draws := s.draws + 1 } ∧
    exec (.setsave none) s = .next { s with dly := Config.freeArg s.draws, dirty := true, draws := s.draws + 1 }

/-! ### The dispatch step (40_dispatch.md) -/

/-- 40_dispatch.md R87, R89: every DISPATCH has its next state, whatever the packet, and raises no fault; the buffer is
then empty, and the transceiver can deliver the next packet. -/
def Obligations.EveryDispatchCompletesAndFlushes : Prop :=
  ∀ s : State, ∃ t : State, dispatchStep s = .next t ∧ t.rxBuf = none ∧ t.rxPend = false ∧
    (∀ q : Packet, q.len ≤ t.cfg.maxPayload → turnEnabled (.rx q) t = true) ∧
    t.fOvfLost = s.fOvfLost ∧ t.fClockWrap = s.fClockWrap ∧ t.fDeadlineWrap = s.fDeadlineWrap

/-- 40_dispatch.md R88: what no dispatch touches, every byte of the store included, and the flags no command clears. -/
def Obligations.DispatchLeavesClockSequencerAndStoreAlone : Prop :=
  ∀ s t : State, dispatchStep s = .next t →
    t.deadline = s.deadline ∧ t.sph = s.sph ∧ t.now = s.now ∧ t.g = s.g ∧
    t.tick = s.tick ∧ t.ovf = s.ovf ∧ t.ovfPend = s.ovfPend ∧
    t.store = s.store ∧ t.storeLog = s.storeLog ∧ (∀ a : StoreAddr, memRead a t = memRead a s) ∧
    t.cfg = s.cfg ∧ t.turns = s.turns ∧
    (s.pend = true → t.pend = true) ∧ (s.dirty = true → t.dirty = true)

/-- 40_dispatch.md R91 (and R88, "No command reads any register"). First: from two states with the same parameters and the
same next free value, a command leaves each control register alone in both or at the same value in both, and appends the
same pin events. Second: delivering a command twice leaves the registers as delivering it once, but for the pin events,
which are appended again; a missing argument (30_encoding.md R63) is drawn anew, so there `DLY` may differ as well. -/
def Obligations.CommandsReadNoRegisterAndRepeatHarmlessly : Prop :=
  (∀ (i : Instr) (s s' t t' : State), s.cfg = s'.cfg → s.draws = s'.draws →
    exec i s = .next t → exec i s' = .next t' →
    ((t.en = s.en ∧ t'.en = s'.en) ∨ t.en = t'.en) ∧
    ((t.pend = s.pend ∧ t'.pend = s'.pend) ∨ t.pend = t'.pend) ∧
    ((t.dly = s.dly ∧ t'.dly = s'.dly) ∨ t.dly = t'.dly) ∧
    ((t.dirty = s.dirty ∧ t'.dirty = s'.dirty) ∨ t.dirty = t'.dirty) ∧
    ((t.ovr = s.ovr ∧ t'.ovr = s'.ovr) ∨ t.ovr = t'.ovr) ∧
    ((t.out = s.out ∧ t'.out = s'.out) ∨ t.out = t'.out) ∧
    ∃ events : List PinEvent, t.pinLog = s.pinLog ++ events ∧ t'.pinLog = s'.pinLog ++ events) ∧
  (∀ (i : Instr) (s t u : State), exec i s = .next t → exec i t = .next u →
    (∃ events : List PinEvent, t.pinLog = s.pinLog ++ events ∧ u.pinLog = t.pinLog ++ events) ∧
    (i ≠ .setdly none → i ≠ .setsave none → u = { t with pinLog := u.pinLog }) ∧
    (i = .setdly none ∨ i = .setsave none → u = { t with dly := u.dly, draws := t.draws + 1 }))

/-- 40_dispatch.md R92: a packet of class DROP_RXFAIL, DROP_SHORT or DROP_ADDR changes the receive buffer alone; a failed
receive, a packet of fewer than 2 bytes and a wrong address byte are such packets. -/
def Obligations.MalformedPacketsChangeNothing : Prop :=
  ∀ (s : State) (p : Packet), s.rxBuf = some p →
    (p.ok = false ∨ p.len < 2 ∨ p.b.head? ≠ some s.cfg.familyId ∨ decode s.cfg p = .dropShort) →
      dispatchStep s = .next { s with rxBuf := none }

/-! ### Turns and steps -/

/-- A step runs the decoded command (40_dispatch.md R74): with DISPATCH's turn next, interrupts enabled and a packet in
the buffer that decodes to command `i`, the step is `exec i` from the state whose turn is taken off the list, and then
the flush of R87. -/
def Obligations.StepRunsTheDecodedCommand : Prop :=
  ∀ (s : State) (p : Packet) (i : Instr),
    nextTurn s = .dispatch → s.sph ≠ .boot → s.rxBuf = some p → decode s.cfg p = .command i →
      step s = mapNext (fun t => { t with rxBuf := none }) (exec i (afterTurn s))

/-- The model's choice of log entry 5, for 00_scope.md R11 "An agent with no enabled step is idle": its turn is taken off
and nothing else happens. -/
def Obligations.AnIdleTurnChangesNothing : Prop :=
  ∀ s : State, turnEnabled (nextTurn s) s = false → step s = .next (afterTurn s)

/-- 60_exceptions.md R132 with R130: when a handler step is enabled. -/
def Obligations.HandlersAreEnabledExactlyOnTheirRequest : Prop :=
  ∀ s : State,
    (turnEnabled .dispatch s = true ↔ s.rxPend = true ∧ s.sph ≠ .boot) ∧
    (turnEnabled .ovfsvc s = true ↔ s.ovfPend = true ∧ s.sph ≠ .boot) ∧
    (turnEnabled .sersvc s = true ↔ s.sph ≠ .boot)

/-- 00_scope.md R11 with 30_encoding.md R66 and 41_scheduler.md R95: no state stops the block; and no step writes the
parameters, which are no state of the block (10_state.md R15, log entry 1). -/
def Obligations.EveryStepAnswersANextState : Prop :=
  ∀ s : State, ∃ t : State, step s = .next t ∧ t.cfg = s.cfg

/-- 40_dispatch.md R73: a delivery fills an empty buffer in any phase, and does nothing while the buffer is full (the
idle turn of log entry 5). -/
def Obligations.APacketIsTakenOnlyIntoAnEmptyBuffer : Prop :=
  ∀ (s : State) (p : Packet), nextTurn s = .rx p → p.len ≤ s.cfg.maxPayload →
    (s.rxPend = false → step s = .next { afterTurn s with rxBuf := some p }) ∧
    (s.rxPend = true → step s = .next (afterTurn s))

/-- 60_exceptions.md R137 with 10_state.md R25: only SCHED and reset write `SPH`, `NOW` and `G`. -/
def Obligations.HandlersLeaveTheSequencerAlone : Prop :=
  ∀ s t : State, step s = .next t → nextTurn s ≠ .sched → nextTurn s ≠ .reset →
    t.sph = s.sph ∧ t.now = s.now ∧ t.g = s.g

/-- 60_exceptions.md R134: with both requests set either handler may go next, and their order never shows. -/
def Obligations.HandlersCommute : Prop :=
  (∀ s : State, s.rxPend = true → s.ovfPend = true → s.sph ≠ .boot →
    turnEnabled .dispatch s = true ∧ turnEnabled .ovfsvc s = true ∧ turnEnabled .sersvc s = true) ∧
  (∀ s : State, dispatchStep (ovfsvcStep s) = mapNext ovfsvcStep (dispatchStep s)) ∧
  (∀ s : State, dispatchStep (sersvcStep s) = mapNext sersvcStep (dispatchStep s)) ∧
  (∀ s : State, ovfsvcStep (sersvcStep s) = sersvcStep (ovfsvcStep s))

/-! ### The scheduler (41_scheduler.md) -/

/-- 41_scheduler.md R94, R95: the micro-step named by `SPH` always completes in one step, and hands over as the table of
R94 says. -/
def Obligations.TheSequencerFollowsTheIterationTable : Prop :=
  ∀ s : State, nextTurn s = .sched → ∃ t : State, step s = .next t ∧
    t.sph = (match s.sph with
      | .boot => .s1
      | .s1 => .s2
      | .s2 => .s3
      | .s3 => if t.g then .s3a else .s4
      | .s3a => .s3b
      | .s3b => .s1
      | .s4 => if s.cfg.deadlineGated then .s1 else .s3b)

/-- 41_scheduler.md R96, pseudocode. -/
def Obligations.S1LatchesTheClock : Prop :=
  ∀ s : State, SchedAt .s1 s →
    step s = .next { afterTurn s with
      now := BitVec.ofNat 64 ((s.ovf.toNat + s.ovfPend.toNat) * s.cfg.tpo + s.tick), sph := .s2 }

/-- 41_scheduler.md R97, pseudocode: with `DIRTY` set, S2 clears it, writes `DLY` to the store and logs it; the store then
reads `DLY`. With `DIRTY` clear it writes nothing. -/
def Obligations.S2WritesTheDelayOncePerRequest : Prop :=
  ∀ s : State, SchedAt .s2 s →
    (s.dirty = true → ∃ t : State, step s = .next t ∧
      t = { afterTurn s with
        dirty := false, store := Memory.write s.cfg.storeInit s.store 0 s.dly,
        storeLog := s.storeLog ++ [.store 0 s.dly], sph := .s3 } ∧
      (Memory.wf s.cfg.storeInit s.store = true → memRead Config.delayAddr t = s.dly)) ∧
    (s.dirty = false → step s = .next { afterTurn s with sph := .s3 })

/-- 41_scheduler.md R98, pseudocode. -/
def Obligations.S3LatchesTheGate : Prop :=
  ∀ s : State, SchedAt .s3 s →
    step s = .next { afterTurn s with g := s.en, sph := if s.en then .s3a else .s4 }

/-- 41_scheduler.md R99 with R100, pseudocode: an episode starts exactly when it is requested. -/
def Obligations.S3aStartsTheRequestedEpisode : Prop :=
  ∀ s : State, SchedAt .s3a s →
    (s.pend = true →
      step s = .next { afterTurn s with
        pend := false
        deadline := BitVec.ofNat 64 (s.now.toNat + 60 * s.dly.toNat * s.cfg.tps)
        out := true
        pinLog := s.pinLog ++ [.pin true]
        fDeadlineWrap := s.fDeadlineWrap || decide (2 ^ 64 ≤ s.now.toNat + 60 * s.dly.toNat * s.cfg.tps)
        sph := .s3b }) ∧
    (s.pend = false → step s = .next { afterTurn s with sph := .s3b })

/-- 41_scheduler.md R101, pseudocode: the comparator fires at or past a nonzero deadline and only there. -/
def Obligations.S3bFiresAtOrPastTheDeadline : Prop :=
  ∀ s : State, SchedAt .s3b s →
    (s.deadline ≠ 0 → s.deadline.toNat ≤ s.now.toNat →
      step s = .next { afterTurn s with
        deadline := 0, out := false, pinLog := s.pinLog ++ [.pin false], sph := .s1 }) ∧
    (s.deadline = 0 ∨ s.now.toNat < s.deadline.toNat → step s = .next { afterTurn s with sph := .s1 })

/-- 41_scheduler.md R102 and R103, pseudocode: a closed gate cancels the request and touches neither the countdown nor
the output; the comparator follows only where it is not gated. -/
def Obligations.S4CancelsOnlyTheRequest : Prop :=
  ∀ s : State, SchedAt .s4 s →
    (s.cfg.deadlineGated = true → step s = .next { afterTurn s with pend := false, sph := .s1 }) ∧
    (s.cfg.deadlineGated = false → step s = .next { afterTurn s with pend := false, sph := .s3b })

/-- 41_scheduler.md R100: the length of a countdown, when it fits in 64 bits, and what S3A does where it does not. -/
def Obligations.DeadlineLengthIsSixtySecondsPerUnit : Prop :=
  (∀ (c : Config) (d : Byte), delta c d = 60 * d.toNat * c.tps ∧ delta c d = secondsToCycles c (60 * d.toNat)) ∧
  (∀ (c : Config) (d : Byte), c.tps * 15300 < 2 ^ 64 → delta c d < 2 ^ 64) ∧
  (∀ s t : State, StartsEpisode s → 2 ^ 64 ≤ delta s.cfg s.dly → step s = .next t →
    2 ^ 64 ≤ s.now.toNat + delta s.cfg s.dly ∧ t.fDeadlineWrap = true)

/-- 41_scheduler.md R104: a zero delay gives a pulse with no dwell, whatever `DEADLINE_GATED`. -/
def Obligations.ZeroDelayGivesAPulse : Prop :=
  ∀ s : State, s.sph = .s3a → s.pend = true → s.dly = 0 → s.now ≠ 0 →
    schedStep s = { s with
      pend := false, deadline := s.now, out := true, pinLog := s.pinLog ++ [.pin true], sph := .s3b } ∧
    schedStep (schedStep s) = { s with
      pend := false, deadline := 0, out := false, pinLog := s.pinLog ++ [.pin true, .pin false], sph := .s1 }

/-- 41_scheduler.md R105. First: a computed deadline of 0 asserts the output and leaves no off job, so S3B does not fire;
the sum wraps unless it is 0 itself. Second, "the output stays asserted until OFF": over a run with no OFF, no new
request and no reset, an asserted output with no off job stays asserted. -/
def Obligations.AComputedDeadlineOfZeroNeverFires : Prop :=
  (∀ s : State, s.sph = .s3a → s.pend = true → (s.now.toNat + 60 * s.dly.toNat * s.cfg.tps) % 2 ^ 64 = 0 →
    (schedStep s).deadline = 0 ∧ (schedStep s).out = true ∧ (schedStep s).pend = false ∧
    (schedStep s).fDeadlineWrap =
      (s.fDeadlineWrap || decide (s.now.toNat + 60 * s.dly.toNat * s.cfg.tps ≠ 0)) ∧
    schedStep (schedStep s) = { schedStep s with sph := .s1 }) ∧
  (∀ (r : Nat → State) (n : Nat), IsRun r n → NoReset r n →
    (r 0).out = true → (r 0).deadline = 0 → (r 0).pend = false →
    (∀ i, i < n → ¬ Dispatches (.command .off) (r i) ∧ ¬ Dispatches (.command .arm) (r i)) →
      (r n).out = true ∧ (r n).deadline = 0)

/-- 41_scheduler.md R106: an episode started during a countdown overwrites the deadline, and nothing of the earlier one
is left. -/
def Obligations.RearmingRestartsTheCountdown : Prop :=
  ∀ s : State, SchedAt .s3a s → s.pend = true → s.deadline ≠ 0 →
    (∃ t : State, step s = .next t ∧
      t.deadline = BitVec.ofNat 64 (s.now.toNat + delta s.cfg s.dly) ∧ t.out = true ∧
      t.pinLog = s.pinLog ++ [.pin true]) ∧
    ∀ earlier : Word64, step { s with deadline := earlier } = step s

/-- 41_scheduler.md R110: only ON, and S3A with `G = 1` and `PEND = 1`, write `PinWrite(1)`, so only they assert the
output. -/
def Obligations.OnlyOnOrAnEpisodeAssertsTheOutput : Prop :=
  ∀ s t : State, Inv s → step s = .next t →
    (t.pinLog = s.pinLog ++ [.pin true] ↔
      Dispatches (.command .on) s ∨ (StartsEpisode s ∧ s.g = true ∧ s.pend = true)) ∧
    (s.out = false → t.out = true →
      Dispatches (.command .on) s ∨ (StartsEpisode s ∧ s.g = true ∧ s.pend = true))

/-- 10_state.md R21: the output latch changes only with an event of `PINLOG` that says so; reset alone writes it without
one. -/
def Obligations.TheOutputFollowsThePinTrace : Prop :=
  ∀ s t : State, step s = .next t →
    (nextTurn s ≠ .reset →
      (t.pinLog = s.pinLog ∧ t.out = s.out) ∨ ∃ b : Bool, t.pinLog = s.pinLog ++ [.pin b] ∧ t.out = b) ∧
    (nextTurn s = .reset → t.pinLog = s.pinLog ∧ t.out = false)

/-- 41_scheduler.md R107: between two firings of the comparator an episode has set a nonzero deadline; a firing clears
the deadline and deasserts the output in one step. -/
def Obligations.TheComparatorNeverFiresTwiceForOneDeadline : Prop :=
  ∀ (r : Nat → State) (n : Nat), IsRun r n → ∀ i, i < n → ComparatorFires (r i) →
    ((r (i + 1)).deadline = 0 ∧ (r (i + 1)).out = false ∧
      (r (i + 1)).pinLog = (r i).pinLog ++ [.pin false]) ∧
    ∀ j, i < j → j < n → ComparatorFires (r j) →
      ∃ k, i < k ∧ k < j ∧ StartsEpisode (r k) ∧ (r (k + 1)).deadline ≠ 0

/-- 41_scheduler.md R108, with 42_cycle_clock.md R120: once the clock is at or past a nonzero deadline, the comparator
fires within nine micro-steps of SCHED, whatever other steps fall between them, while the gate is open, nothing is
requested anew, and the run loses no overflow and does not exhaust the clock. -/
def Obligations.AnExpiredDeadlineFiresWithinNineMicroSteps : Prop :=
  ∀ (r : Nat → State) (n : Nat), IsRun r n → NoReset r n →
    (r 0).tick < (r 0).cfg.tpo → combinedCount (r 0) < 2 ^ 64 →
    (r n).fOvfLost = false → (r n).fClockWrap = false →
    (∀ i, i ≤ n → (r i).en = true ∧ (r i).pend = false) →
    (r 0).deadline ≠ 0 → (r 0).deadline.toNat ≤ combinedCount (r 0) → 9 ≤ stepsOf .sched r n →
      ∃ i, i < n ∧ ComparatorFires (r i) ∧ (r (i + 1)).deadline = 0 ∧ (r (i + 1)).out = false

/-- 70_reset_and_hazards.md R161: a DISABLE, or an ON or OFF in ALIAS mode, between S3 and S3A closes the gate but does
not stop the iteration that has latched it open. -/
def Obligations.ALateDisableDoesNotStopTheIteration : Prop :=
  ∀ (i : Instr) (s t : State), s.sph = .s3 → s.en = true →
    (i = .disable ∨ (s.cfg.ovrMode = .aliasEnable ∧ (i = .on ∨ i = .off))) →
    exec i (schedStep s) = .next t →
      t.en = false ∧ t.g = true ∧ t.sph = .s3a ∧
      (s.pend = true → (schedStep t).pend = false ∧ (schedStep t).out = true ∧
        (schedStep t).deadline = BitVec.ofNat 64 (s.now.toNat + delta s.cfg s.dly) ∧
        (schedStep t).pinLog = t.pinLog ++ [.pin true])

/-- 41_scheduler.md R109, "Disable-cancels-pending": a DISABLE before the iteration keeps it from asserting the output,
clears the request, and leaves the countdown as it was. -/
def Obligations.AnEarlyDisableCancelsTheRequest : Prop :=
  ∀ s t : State, s.sph = .s1 → exec .disable s = .next t →
    (schedStep (schedStep (schedStep (schedStep t)))).pend = false ∧
    (schedStep (schedStep (schedStep (schedStep t)))).out = s.out ∧
    (schedStep (schedStep (schedStep (schedStep t)))).pinLog = s.pinLog ∧
    (schedStep (schedStep (schedStep (schedStep t)))).deadline = s.deadline

/-! ### Who writes the control registers (10_state.md R31) -/

/-- 10_state.md R16, R18: the writers of `EN` and of `DLY`, and the values they write. SETDLY and SETSAVE write their
argument, a free value where it is missing (log entry 9). Reset is named as a writer of `DLY` without a value, since the
spec gives none (R37; the model's is log entry 8). -/
def Obligations.OnlyTheirWritersChangeGateAndDelay : Prop :=
  ∀ s t : State, step s = .next t →
    (t.en ≠ s.en →
      (t.en = true ∧ Dispatches (.command .enable) s) ∨
      (t.en = false ∧ (Dispatches (.command .disable) s ∨
        (s.cfg.ovrMode = .aliasEnable ∧ (Dispatches (.command .on) s ∨ Dispatches (.command .off) s)))) ∨
      (nextTurn s = .reset ∧ t.en = s.cfg.enReset)) ∧
    (t.dly ≠ s.dly →
      (∃ arg : Option Byte, (Dispatches (.command (.setdly arg)) s ∨ Dispatches (.command (.setsave arg)) s) ∧
        t.dly = argValue arg (afterTurn s)) ∨
      (SchedAt .boot s ∧ t.dly = memRead Config.delayAddr s) ∨ nextTurn s = .reset)

/-- 10_state.md R17: `PEND` is set only by ARM and cleared only by S3A with the start of its episode, by S4, or by
reset. -/
def Obligations.OnlyItsWritersChangeTheRequest : Prop :=
  ∀ s t : State, step s = .next t →
    (s.pend = false → t.pend = true → Dispatches (.command .arm) s) ∧
    (s.pend = true → t.pend = false → StartsEpisode s ∨ SchedAt .s4 s ∨ nextTurn s = .reset)

/-- 10_state.md R19: the writers of `DEADLINE`; no command is among them. -/
def Obligations.OnlyTheSchedulerWritesTheDeadline : Prop :=
  ∀ s t : State, step s = .next t → t.deadline ≠ s.deadline →
    StartsEpisode s ∨ (ComparatorFires s ∧ t.deadline = 0) ∨ (nextTurn s = .reset ∧ t.deadline = 0)

/-- 10_state.md R20 with 70_reset_and_hazards.md R162: `DIRTY` is set only by SAVE and SETSAVE, and a request is given up
only by the S2 that writes `DLY` to the store, or by reset. -/
def Obligations.APersistRequestIsKeptUntilItIsWritten : Prop :=
  ∀ s t : State, step s = .next t →
    (s.dirty = false → t.dirty = true →
      Dispatches (.command .save) s ∨ ∃ arg : Option Byte, Dispatches (.command (.setsave arg)) s) ∧
    (s.dirty = true → t.dirty = false →
      (SchedAt .s2 s ∧ t.storeLog = s.storeLog ++ [.store 0 s.dly]) ∨ nextTurn s = .reset)

/-! ### The durable store (20_memory.md) -/

/-- 10_state.md R29, 20_memory.md R43, R44: only S2 with a request writes the store; each write is logged, and in a store
in canonical form it is what the store then reads as. Reset and every other step leave every byte as it was. -/
def Obligations.TheStoreIsWrittenOnlyByTheDirtyLatch : Prop :=
  ∀ s t : State, step s = .next t →
    (¬ (SchedAt .s2 s ∧ s.dirty = true) →
      t.storeLog = s.storeLog ∧ ∀ a : StoreAddr, memRead a t = memRead a s) ∧
    (SchedAt .s2 s ∧ s.dirty = true →
      t.storeLog = s.storeLog ++ [.store 0 s.dly] ∧
      (Memory.wf s.cfg.storeInit s.store = true → memRead Config.delayAddr t = s.dly))

/-- The source's persistence round trip (95_test_vectors.md L1-7, 20_memory.md R43): a delay written by S2 is what a
later BOOT loads, through any steps and any resets that do not write the store again. -/
def Obligations.AWrittenDelaySurvivesReset : Prop :=
  ∀ (r : Nat → State) (n : Nat), IsRun r (n + 1) → 0 < n →
    SchedAt .s2 (r 0) → (r 0).dirty = true → Memory.wf (r 0).cfg.storeInit (r 0).store = true →
    (∀ i, 0 < i → i < n → ¬ (SchedAt .s2 (r i) ∧ (r i).dirty = true)) →
    SchedAt .boot (r n) →
      (r (n + 1)).dly = (r 0).dly ∧ (r (n + 1)).sph = .s1

/-- 70_reset_and_hazards.md R154, R157 with 10_state.md R29: BOOT loads the last byte ever written, `STORE_INIT` where
none was. -/
def Obligations.BootLoadsTheLastStoredByte : Prop :=
  ∀ s : State, Inv s → SchedAt .boot s →
    step s = .next { afterTurn s with dly := lastStored s, sph := .s1 } ∧
    (s.storeLog = [] → lastStored s = s.cfg.storeInit) ∧
    (∀ (events : List StoreEvent) (a : Nat) (v : Byte),
      s.storeLog = events ++ [.store a v] → lastStored s = v)

/-! ### The cycle clock (42_cycle_clock.md) -/

/-- 42_cycle_clock.md R113, R114, pseudocode of the TICKER step. -/
def Obligations.ATickCountsOrWraps : Prop :=
  ∀ s : State, TakesTurn .ticker s →
    (s.tick + 1 < s.cfg.tpo →
      step s = .next { afterTurn s with
        tick := s.tick + 1
        fClockWrap := s.fClockWrap ||
          decide (2 ^ 64 ≤ (s.ovf.toNat + s.ovfPend.toNat) * s.cfg.tpo + (s.tick + 1)) }) ∧
    (¬ s.tick + 1 < s.cfg.tpo →
      step s = .next { afterTurn s with
        tick := 0
        ovfPend := true
        fOvfLost := s.fOvfLost || s.ovfPend
        fClockWrap := s.fClockWrap || decide (2 ^ 64 ≤ (s.ovf.toNat + 1) * s.cfg.tpo) })

/-- 42_cycle_clock.md R115: a wrap on a pending overflow, under each `OVF_LOSS_MODE`. -/
def Obligations.ALostOverflowIsAFaultOrExcluded : Prop :=
  State.reset.cfg.ovfLossMode = .fault ∧
  ∀ s : State, nextTurn s = .ticker → s.tick + 1 = s.cfg.tpo → s.ovfPend = true →
    (s.cfg.ovfLossMode = .fault → ∃ t : State, step s = .next t ∧
      t.tick = 0 ∧ t.ovfPend = true ∧ t.ovf = s.ovf ∧ t.fOvfLost = true ∧
      combinedCount t + (s.cfg.tpo - 1) = combinedCount s) ∧
    (s.cfg.ovfLossMode = .excluded → turnEnabled .ticker s = false)

/-- 42_cycle_clock.md R117, pseudocode of the OVFSVC step; the combined count stays. -/
def Obligations.TheOverflowHandlerCountsTheOverflow : Prop :=
  ∀ s : State, TakesTurn .ovfsvc s →
    step s = .next { afterTurn s with ovf := s.ovf + 1, ovfPend := false } ∧
    (s.ovf.toNat + 1 < 2 ^ 64 → combinedCount (ovfsvcStep s) = combinedCount s)

/-- 42_cycle_clock.md R118: the snapshot and its value, the same before and after the handler of a pending overflow, and
the one place it is taken. -/
def Obligations.TheSnapshotCountsAPendingOverflow : Prop :=
  (∀ s : State, (clockRead s).toNat = ((s.ovf.toNat + s.ovfPend.toNat) * s.cfg.tpo + s.tick) % 2 ^ 64) ∧
  (∀ s : State, s.ovfPend = true → clockRead (ovfsvcStep s) = clockRead s) ∧
  (∀ s t : State, step s = .next t → t.now ≠ s.now →
    (SchedAt .s1 s ∧ t.now = clockRead s) ∨ nextTurn s = .reset)

/-- 42_cycle_clock.md R120: what each step does to the combined count, and that over a run with no lost overflow and no
exhaustion two snapshots differ by the number of ticks between them. A run is one lifetime of the clock (R125, R152), so
it holds no reset; it starts with `TICK` in range and the count below 2^64. -/
def Obligations.TheClockAdvancesByOnePerTick : Prop :=
  (∀ s t : State, step s = .next t → nextTurn s ≠ .reset →
    (TakesTurn .ticker s → s.tick < s.cfg.tpo → overflowLost s = false →
      combinedCount t = combinedCount s + 1) ∧
    (TakesTurn .ovfsvc s → 1 ≤ s.cfg.tpo → combinedCount s < 2 ^ 64 → combinedCount t = combinedCount s) ∧
    (¬ TakesTurn .ticker s → ¬ TakesTurn .ovfsvc s →
      t.tick = s.tick ∧ t.ovf = s.ovf ∧ t.ovfPend = s.ovfPend)) ∧
  (∀ (r : Nat → State) (n : Nat), IsRun r n → NoReset r n →
    (r 0).tick < (r 0).cfg.tpo → combinedCount (r 0) < 2 ^ 64 →
    (r n).fOvfLost = false → (r n).fClockWrap = false →
      (clockRead (r n)).toNat = (clockRead (r 0)).toNat + stepsOf .ticker r n ∧
      (clockRead (r 0)).toNat ≤ (clockRead (r n)).toNat)

/-- 42_cycle_clock.md R116, R124: with a counter modulus of at most 2^64, the combined count stays below 2^64 until
`F_CLOCK_WRAP` is raised; every step keeps this. -/
def Obligations.TheClockFitsUntilItsFault : Prop :=
  ∀ s t : State, step s = .next t →
    s.tick < s.cfg.tpo → s.cfg.tpo ≤ 2 ^ 64 → (s.fClockWrap = false → combinedCount s < 2 ^ 64) →
      t.tick < t.cfg.tpo ∧ t.cfg.tpo ≤ 2 ^ 64 ∧ (t.fClockWrap = false → combinedCount t < 2 ^ 64)

/-! ### Fault bits (60_exceptions.md) -/

/-- 60_exceptions.md R128 with R149, R150: each fault bit is set in exactly the step that causes its fault, and never
cleared. -/
def Obligations.FaultBitsHaveExactlyTheirCauses : Prop :=
  ∀ s t : State, step s = .next t →
    (t.fOvfLost = true ↔
      s.fOvfLost = true ∨ (TakesTurn .ticker s ∧ ¬ s.tick + 1 < s.cfg.tpo ∧ s.ovfPend = true)) ∧
    (t.fClockWrap = true ↔
      s.fClockWrap = true ∨ (TakesTurn .ticker s ∧ 2 ^ 64 ≤ combinedCount t)) ∧
    (t.fDeadlineWrap = true ↔
      s.fDeadlineWrap = true ∨ (StartsEpisode s ∧ 2 ^ 64 ≤ s.now.toNat + 60 * s.dly.toNat * s.cfg.tps))

/-- 60_exceptions.md R136. First: a step that newly sets `F_OVF_LOST` or `F_CLOCK_WRAP` is a tick, so a step that sets
both is one. Second: a tick that wraps on a pending overflow and leaves a combined count of 2^64 or more raises both, so
both bits are set after it, whichever were set before. Third: a step that newly sets `F_DEADLINE_WRAP` sets no other. -/
def Obligations.OnlyATickRaisesTwoFaults : Prop :=
  (∀ s t : State, step s = .next t →
    (s.fOvfLost = false ∧ t.fOvfLost = true) ∨ (s.fClockWrap = false ∧ t.fClockWrap = true) → TakesTurn .ticker s) ∧
  (∀ s : State, TakesTurn .ticker s → ¬ s.tick + 1 < s.cfg.tpo → s.ovfPend = true →
    2 ^ 64 ≤ (s.ovf.toNat + 1) * s.cfg.tpo →
      ∃ t : State, step s = .next t ∧ t.fOvfLost = true ∧ t.fClockWrap = true ∧ 2 ^ 64 ≤ combinedCount t) ∧
  (∀ s t : State, step s = .next t → s.fDeadlineWrap = false → t.fDeadlineWrap = true →
    t.fOvfLost = s.fOvfLost ∧ t.fClockWrap = s.fClockWrap)

/-! ### Reset (70_reset_and_hazards.md, 10_state.md R37) -/

/-- 70_reset_and_hazards.md R151 with the values of 10_state.md R37; `STORE[0]`, the traces and the fault bits keep
theirs. (`DLY`, `NOW` and `G` have no value the spec gives, so nothing is said of them.) -/
def Obligations.ResetSetsEveryRegister : Prop :=
  ∀ s : State, nextTurn s = .reset → 1 ≤ s.cfg.tpo → ∃ t : State, step s = .next t ∧
    t.en = s.cfg.enReset ∧ t.pend = false ∧ t.deadline = 0 ∧ t.dirty = false ∧
    (s.cfg.ovrMode = .separate → t.ovr = false) ∧ t.out = false ∧
    t.ovf = 0 ∧ t.ovfPend = false ∧ t.tick < s.cfg.tpo ∧ t.rxBuf = none ∧ t.rxPend = false ∧ t.sph = .boot ∧
    t.store = s.store ∧ (∀ a : StoreAddr, memRead a t = memRead a s) ∧
    t.pinLog = s.pinLog ∧ t.storeLog = s.storeLog ∧
    t.fOvfLost = s.fOvfLost ∧ t.fClockWrap = s.fClockWrap ∧ t.fDeadlineWrap = s.fDeadlineWrap

/-- 10_state.md R37 and R26: the state after the first power-on. (`OVR` at 0 is the model's choice of log entry 14, since
the node at reset is in ALIAS mode and has no `OVR`.) -/
def Obligations.TheResetStateHoldsTheSpecValues : Prop :=
  State.reset.en = State.reset.cfg.enReset ∧ State.reset.cfg.enReset = false ∧
  State.reset.pend = false ∧ State.reset.deadline = 0 ∧ State.reset.dirty = false ∧ State.reset.ovr = false ∧
  State.reset.out = false ∧ State.reset.ovf = 0 ∧ State.reset.ovfPend = false ∧
  State.reset.tick < State.reset.cfg.tpo ∧ State.reset.rxBuf = none ∧ State.reset.rxPend = false ∧
  State.reset.sph = .boot ∧ FaultFree State.reset ∧
  memRead Config.delayAddr State.reset = State.reset.cfg.storeInit ∧
  State.reset.pinLog = [] ∧ State.reset.storeLog = []

/-! ### The invariant -/

/-- The invariant of `Inv` holds at reset: the parameters and `TICK` in range, no packet buffered, `SPH` at BOOT. Its
clauses on the store's canonical form and on `OVR`, which the ALIAS node of `State.reset` does not have (10_state.md R30),
rest on the model's choices of log entries 11 and 14. -/
def Obligations.TheInvariantHoldsAtReset : Prop := Inv State.reset

/-- Every step keeps the invariant: the parameters and `TICK` in range (00_scope.md R7, 10_state.md R22), the store in
canonical form and reading as its last write (20_memory.md R43), S3A, S4 and S3B reached only as the gate allows
(41_scheduler.md R98, R101, R103), `OVR` at 0 (10_state.md R30), the buffered packet deliverable (30_encoding.md R57). The store's form and an
`OVR` in ALIAS mode are the model's choices of log entries 11 and 14. -/
def Obligations.EveryStepKeepsTheInvariant : Prop :=
  ∀ s t : State, Inv s → step s = .next t → Inv t

/-! ### Liveness under weak fairness (70_reset_and_hazards.md R167) -/

/-- 60_exceptions.md R133 with 70_reset_and_hazards.md R160, R167: in a weakly fair run with no reset, a packet in the
buffer is dispatched in the end, and the buffer is then empty. -/
def Obligations.EveryBufferedPacketIsDispatched : Prop :=
  ∀ (sched : Nat → Turn) (r : Nat → State), IsInterleaving sched r → WeaklyFair sched r →
    (∀ i, sched i ≠ .reset) → ∀ n, (r n).rxPend = true →
      ∃ m, n ≤ m ∧ sched m = .dispatch ∧ turnEnabled .dispatch (r m) = true ∧ (r m).rxBuf = (r n).rxBuf ∧
        (r (m + 1)).rxPend = false

/-- 70_reset_and_hazards.md R162 with R167: in a run with no reset that is weakly fair to SCHED, a persist request is
written in the end, with the `DLY` of that moment, and an episode request is in the end started or, the gate latched
closed, cancelled. -/
def Obligations.EveryRequestIsActedOn : Prop :=
  ∀ (sched : Nat → Turn) (r : Nat → State), IsInterleaving sched r → FairFor .sched sched r →
    (∀ i, sched i ≠ .reset) → ∀ n,
      ((r n).dirty = true → ∃ m, n ≤ m ∧ sched m = .sched ∧ (r m).sph = .s2 ∧ (r m).dirty = true ∧
        (r (m + 1)).dirty = false ∧ (r (m + 1)).storeLog = (r m).storeLog ++ [.store 0 (r m).dly]) ∧
      ((r n).pend = true → ∃ m, n ≤ m ∧ sched m = .sched ∧ (r m).pend = true ∧ (r (m + 1)).pend = false ∧
        (((r m).sph = .s3a ∧ (r (m + 1)).out = true) ∨ (r m).sph = .s4))

/-! ### The serial handler (60_exceptions.md R130) -/

/-- 60_exceptions.md R130: SERSVC is enabled at any time after BOOT, and its step changes no register, trace or store
byte: its turn is taken off (log entry 4), and nothing else happens. -/
def Obligations.TheSerialHandlerChangesNoRegister : Prop :=
  (∀ s : State, s.sph ≠ .boot → turnEnabled .sersvc s = true) ∧
  (∀ s : State, TakesTurn .sersvc s → step s = .next (afterTurn s))
end

