-- ==== Sys2Proof/Laws/Decode.lean ====
section
/-! SUPPORT. What the decoder answers, said once. -/

namespace Sys2Proof

@[simp] theorem decode_not_ok (c : Config) (b : List Byte) : decode c ⟨false, b⟩ = .dropRxFail := rfl

@[simp] theorem decode_nil (c : Config) : decode c ⟨true, []⟩ = .dropShort := rfl

@[simp] theorem decode_single (c : Config) (a : Byte) : decode c ⟨true, [a]⟩ = .dropShort := rfl

@[simp] theorem decode_bytes (c : Config) (adr opc : Byte) (rest : List Byte) :
    decode c ⟨true, adr :: opc :: rest⟩ =
      if adr ≠ c.familyId then .dropAddr else decodeOpcode c opc rest.head? := rfl

@[simp] theorem decodeArg_present (c : Config) (mk : Option Byte → Instr) (v : Byte) :
    decodeArg c mk (some v) = .command (mk (some v)) := rfl

theorem decodeArg_absent (c : Config) (mk : Option Byte → Instr) :
    decodeArg c mk none = if c.argAbsent = .draw then .command (mk none) else .dropShort := by
  cases h : c.argAbsent <;> simp [decodeArg, h]

/-- A packet that decodes to a command is a successful receive that carries `FAMILY_ID` and an opcode (30_encoding.md
R60). -/
theorem decode_command {c : Config} {p : Packet} {i : Instr} (h : decode c p = .command i) :
    ∃ opc rest, p = ⟨true, c.familyId :: opc :: rest⟩ ∧ decodeOpcode c opc rest.head? = .command i := by
  obtain ⟨ok, b⟩ := p
  match ok, b with
  | false, _ => simp at h
  | true, [] => simp at h
  | true, [_] => simp at h
  | true, adr :: opc :: rest =>
    rw [decode_bytes] at h
    split at h
    · simp at h
    · rename_i ha
      exact ⟨opc, rest, by rw [not_not.mp ha], h⟩

end Sys2Proof
end

