-- ==== Sys2Proof/Laws/State.lean ====
section
/-! SUPPORT. One lemma per field per named update, so that no proof unfolds a record update. -/

namespace Sys2Proof.Machine

open Sys2Proof

/-! ### `memWrite` -/

@[simp] theorem memWrite_cfg (a : StoreAddr) (v : Byte) (s : State) : (memWrite a v s).cfg = s.cfg := rfl
@[simp] theorem memWrite_en (a : StoreAddr) (v : Byte) (s : State) : (memWrite a v s).en = s.en := rfl
@[simp] theorem memWrite_pend (a : StoreAddr) (v : Byte) (s : State) : (memWrite a v s).pend = s.pend := rfl
@[simp] theorem memWrite_dly (a : StoreAddr) (v : Byte) (s : State) : (memWrite a v s).dly = s.dly := rfl
@[simp] theorem memWrite_deadline (a : StoreAddr) (v : Byte) (s : State) : (memWrite a v s).deadline = s.deadline := rfl
@[simp] theorem memWrite_dirty (a : StoreAddr) (v : Byte) (s : State) : (memWrite a v s).dirty = s.dirty := rfl
@[simp] theorem memWrite_ovr (a : StoreAddr) (v : Byte) (s : State) : (memWrite a v s).ovr = s.ovr := rfl
@[simp] theorem memWrite_out (a : StoreAddr) (v : Byte) (s : State) : (memWrite a v s).out = s.out := rfl
@[simp] theorem memWrite_tick (a : StoreAddr) (v : Byte) (s : State) : (memWrite a v s).tick = s.tick := rfl
@[simp] theorem memWrite_ovf (a : StoreAddr) (v : Byte) (s : State) : (memWrite a v s).ovf = s.ovf := rfl
@[simp] theorem memWrite_ovfPend (a : StoreAddr) (v : Byte) (s : State) : (memWrite a v s).ovfPend = s.ovfPend := rfl
@[simp] theorem memWrite_rxBuf (a : StoreAddr) (v : Byte) (s : State) : (memWrite a v s).rxBuf = s.rxBuf := rfl
@[simp] theorem memWrite_sph (a : StoreAddr) (v : Byte) (s : State) : (memWrite a v s).sph = s.sph := rfl
@[simp] theorem memWrite_now (a : StoreAddr) (v : Byte) (s : State) : (memWrite a v s).now = s.now := rfl
@[simp] theorem memWrite_g (a : StoreAddr) (v : Byte) (s : State) : (memWrite a v s).g = s.g := rfl
@[simp] theorem memWrite_fOvfLost (a : StoreAddr) (v : Byte) (s : State) : (memWrite a v s).fOvfLost = s.fOvfLost := rfl
@[simp] theorem memWrite_fClockWrap (a : StoreAddr) (v : Byte) (s : State) : (memWrite a v s).fClockWrap = s.fClockWrap := rfl
@[simp] theorem memWrite_fDeadlineWrap (a : StoreAddr) (v : Byte) (s : State) : (memWrite a v s).fDeadlineWrap = s.fDeadlineWrap := rfl
@[simp] theorem memWrite_store (a : StoreAddr) (v : Byte) (s : State) : (memWrite a v s).store = Memory.write s.cfg.storeInit s.store a.val v := rfl
@[simp] theorem memWrite_pinLog (a : StoreAddr) (v : Byte) (s : State) : (memWrite a v s).pinLog = s.pinLog := rfl
@[simp] theorem memWrite_storeLog (a : StoreAddr) (v : Byte) (s : State) : (memWrite a v s).storeLog = s.storeLog ++ [.store a.val v] := rfl
@[simp] theorem memWrite_turns (a : StoreAddr) (v : Byte) (s : State) : (memWrite a v s).turns = s.turns := rfl
@[simp] theorem memWrite_draws (a : StoreAddr) (v : Byte) (s : State) : (memWrite a v s).draws = s.draws := rfl

/-! ### `pinWrite` -/

@[simp] theorem pinWrite_cfg (b : Bool) (s : State) : (pinWrite b s).cfg = s.cfg := rfl
@[simp] theorem pinWrite_en (b : Bool) (s : State) : (pinWrite b s).en = s.en := rfl
@[simp] theorem pinWrite_pend (b : Bool) (s : State) : (pinWrite b s).pend = s.pend := rfl
@[simp] theorem pinWrite_dly (b : Bool) (s : State) : (pinWrite b s).dly = s.dly := rfl
@[simp] theorem pinWrite_deadline (b : Bool) (s : State) : (pinWrite b s).deadline = s.deadline := rfl
@[simp] theorem pinWrite_dirty (b : Bool) (s : State) : (pinWrite b s).dirty = s.dirty := rfl
@[simp] theorem pinWrite_ovr (b : Bool) (s : State) : (pinWrite b s).ovr = s.ovr := rfl
@[simp] theorem pinWrite_out (b : Bool) (s : State) : (pinWrite b s).out = b := rfl
@[simp] theorem pinWrite_tick (b : Bool) (s : State) : (pinWrite b s).tick = s.tick := rfl
@[simp] theorem pinWrite_ovf (b : Bool) (s : State) : (pinWrite b s).ovf = s.ovf := rfl
@[simp] theorem pinWrite_ovfPend (b : Bool) (s : State) : (pinWrite b s).ovfPend = s.ovfPend := rfl
@[simp] theorem pinWrite_rxBuf (b : Bool) (s : State) : (pinWrite b s).rxBuf = s.rxBuf := rfl
@[simp] theorem pinWrite_sph (b : Bool) (s : State) : (pinWrite b s).sph = s.sph := rfl
@[simp] theorem pinWrite_now (b : Bool) (s : State) : (pinWrite b s).now = s.now := rfl
@[simp] theorem pinWrite_g (b : Bool) (s : State) : (pinWrite b s).g = s.g := rfl
@[simp] theorem pinWrite_fOvfLost (b : Bool) (s : State) : (pinWrite b s).fOvfLost = s.fOvfLost := rfl
@[simp] theorem pinWrite_fClockWrap (b : Bool) (s : State) : (pinWrite b s).fClockWrap = s.fClockWrap := rfl
@[simp] theorem pinWrite_fDeadlineWrap (b : Bool) (s : State) : (pinWrite b s).fDeadlineWrap = s.fDeadlineWrap := rfl
@[simp] theorem pinWrite_store (b : Bool) (s : State) : (pinWrite b s).store = s.store := rfl
@[simp] theorem pinWrite_pinLog (b : Bool) (s : State) : (pinWrite b s).pinLog = s.pinLog ++ [.pin b] := rfl
@[simp] theorem pinWrite_storeLog (b : Bool) (s : State) : (pinWrite b s).storeLog = s.storeLog := rfl
@[simp] theorem pinWrite_turns (b : Bool) (s : State) : (pinWrite b s).turns = s.turns := rfl
@[simp] theorem pinWrite_draws (b : Bool) (s : State) : (pinWrite b s).draws = s.draws := rfl

/-! ### `goTo` -/

@[simp] theorem goTo_cfg (ph : Phase) (s : State) : (goTo ph s).cfg = s.cfg := rfl
@[simp] theorem goTo_en (ph : Phase) (s : State) : (goTo ph s).en = s.en := rfl
@[simp] theorem goTo_pend (ph : Phase) (s : State) : (goTo ph s).pend = s.pend := rfl
@[simp] theorem goTo_dly (ph : Phase) (s : State) : (goTo ph s).dly = s.dly := rfl
@[simp] theorem goTo_deadline (ph : Phase) (s : State) : (goTo ph s).deadline = s.deadline := rfl
@[simp] theorem goTo_dirty (ph : Phase) (s : State) : (goTo ph s).dirty = s.dirty := rfl
@[simp] theorem goTo_ovr (ph : Phase) (s : State) : (goTo ph s).ovr = s.ovr := rfl
@[simp] theorem goTo_out (ph : Phase) (s : State) : (goTo ph s).out = s.out := rfl
@[simp] theorem goTo_tick (ph : Phase) (s : State) : (goTo ph s).tick = s.tick := rfl
@[simp] theorem goTo_ovf (ph : Phase) (s : State) : (goTo ph s).ovf = s.ovf := rfl
@[simp] theorem goTo_ovfPend (ph : Phase) (s : State) : (goTo ph s).ovfPend = s.ovfPend := rfl
@[simp] theorem goTo_rxBuf (ph : Phase) (s : State) : (goTo ph s).rxBuf = s.rxBuf := rfl
@[simp] theorem goTo_sph (ph : Phase) (s : State) : (goTo ph s).sph = ph := rfl
@[simp] theorem goTo_now (ph : Phase) (s : State) : (goTo ph s).now = s.now := rfl
@[simp] theorem goTo_g (ph : Phase) (s : State) : (goTo ph s).g = s.g := rfl
@[simp] theorem goTo_fOvfLost (ph : Phase) (s : State) : (goTo ph s).fOvfLost = s.fOvfLost := rfl
@[simp] theorem goTo_fClockWrap (ph : Phase) (s : State) : (goTo ph s).fClockWrap = s.fClockWrap := rfl
@[simp] theorem goTo_fDeadlineWrap (ph : Phase) (s : State) : (goTo ph s).fDeadlineWrap = s.fDeadlineWrap := rfl
@[simp] theorem goTo_store (ph : Phase) (s : State) : (goTo ph s).store = s.store := rfl
@[simp] theorem goTo_pinLog (ph : Phase) (s : State) : (goTo ph s).pinLog = s.pinLog := rfl
@[simp] theorem goTo_storeLog (ph : Phase) (s : State) : (goTo ph s).storeLog = s.storeLog := rfl
@[simp] theorem goTo_turns (ph : Phase) (s : State) : (goTo ph s).turns = s.turns := rfl
@[simp] theorem goTo_draws (ph : Phase) (s : State) : (goTo ph s).draws = s.draws := rfl

/-! ### `flush` -/

@[simp] theorem flush_cfg (s : State) : (flush s).cfg = s.cfg := rfl
@[simp] theorem flush_en (s : State) : (flush s).en = s.en := rfl
@[simp] theorem flush_pend (s : State) : (flush s).pend = s.pend := rfl
@[simp] theorem flush_dly (s : State) : (flush s).dly = s.dly := rfl
@[simp] theorem flush_deadline (s : State) : (flush s).deadline = s.deadline := rfl
@[simp] theorem flush_dirty (s : State) : (flush s).dirty = s.dirty := rfl
@[simp] theorem flush_ovr (s : State) : (flush s).ovr = s.ovr := rfl
@[simp] theorem flush_out (s : State) : (flush s).out = s.out := rfl
@[simp] theorem flush_tick (s : State) : (flush s).tick = s.tick := rfl
@[simp] theorem flush_ovf (s : State) : (flush s).ovf = s.ovf := rfl
@[simp] theorem flush_ovfPend (s : State) : (flush s).ovfPend = s.ovfPend := rfl
@[simp] theorem flush_rxBuf (s : State) : (flush s).rxBuf = none := rfl
@[simp] theorem flush_sph (s : State) : (flush s).sph = s.sph := rfl
@[simp] theorem flush_now (s : State) : (flush s).now = s.now := rfl
@[simp] theorem flush_g (s : State) : (flush s).g = s.g := rfl
@[simp] theorem flush_fOvfLost (s : State) : (flush s).fOvfLost = s.fOvfLost := rfl
@[simp] theorem flush_fClockWrap (s : State) : (flush s).fClockWrap = s.fClockWrap := rfl
@[simp] theorem flush_fDeadlineWrap (s : State) : (flush s).fDeadlineWrap = s.fDeadlineWrap := rfl
@[simp] theorem flush_store (s : State) : (flush s).store = s.store := rfl
@[simp] theorem flush_pinLog (s : State) : (flush s).pinLog = s.pinLog := rfl
@[simp] theorem flush_storeLog (s : State) : (flush s).storeLog = s.storeLog := rfl
@[simp] theorem flush_turns (s : State) : (flush s).turns = s.turns := rfl
@[simp] theorem flush_draws (s : State) : (flush s).draws = s.draws := rfl

/-! ### `serviceOverflow` -/

@[simp] theorem serviceOverflow_cfg (s : State) : (serviceOverflow s).cfg = s.cfg := rfl
@[simp] theorem serviceOverflow_en (s : State) : (serviceOverflow s).en = s.en := rfl
@[simp] theorem serviceOverflow_pend (s : State) : (serviceOverflow s).pend = s.pend := rfl
@[simp] theorem serviceOverflow_dly (s : State) : (serviceOverflow s).dly = s.dly := rfl
@[simp] theorem serviceOverflow_deadline (s : State) : (serviceOverflow s).deadline = s.deadline := rfl
@[simp] theorem serviceOverflow_dirty (s : State) : (serviceOverflow s).dirty = s.dirty := rfl
@[simp] theorem serviceOverflow_ovr (s : State) : (serviceOverflow s).ovr = s.ovr := rfl
@[simp] theorem serviceOverflow_out (s : State) : (serviceOverflow s).out = s.out := rfl
@[simp] theorem serviceOverflow_tick (s : State) : (serviceOverflow s).tick = s.tick := rfl
@[simp] theorem serviceOverflow_ovf (s : State) : (serviceOverflow s).ovf = s.ovf + 1 := rfl
@[simp] theorem serviceOverflow_ovfPend (s : State) : (serviceOverflow s).ovfPend = false := rfl
@[simp] theorem serviceOverflow_rxBuf (s : State) : (serviceOverflow s).rxBuf = s.rxBuf := rfl
@[simp] theorem serviceOverflow_sph (s : State) : (serviceOverflow s).sph = s.sph := rfl
@[simp] theorem serviceOverflow_now (s : State) : (serviceOverflow s).now = s.now := rfl
@[simp] theorem serviceOverflow_g (s : State) : (serviceOverflow s).g = s.g := rfl
@[simp] theorem serviceOverflow_fOvfLost (s : State) : (serviceOverflow s).fOvfLost = s.fOvfLost := rfl
@[simp] theorem serviceOverflow_fClockWrap (s : State) : (serviceOverflow s).fClockWrap = s.fClockWrap := rfl
@[simp] theorem serviceOverflow_fDeadlineWrap (s : State) : (serviceOverflow s).fDeadlineWrap = s.fDeadlineWrap := rfl
@[simp] theorem serviceOverflow_store (s : State) : (serviceOverflow s).store = s.store := rfl
@[simp] theorem serviceOverflow_pinLog (s : State) : (serviceOverflow s).pinLog = s.pinLog := rfl
@[simp] theorem serviceOverflow_storeLog (s : State) : (serviceOverflow s).storeLog = s.storeLog := rfl
@[simp] theorem serviceOverflow_turns (s : State) : (serviceOverflow s).turns = s.turns := rfl
@[simp] theorem serviceOverflow_draws (s : State) : (serviceOverflow s).draws = s.draws := rfl

/-! ### `writeOverride` -/

@[simp] theorem writeOverride_cfg (s : State) : (writeOverride s).cfg = s.cfg := by unfold writeOverride; split <;> simp_all
@[simp] theorem writeOverride_en (s : State) : (writeOverride s).en = (s.en && decide (s.cfg.ovrMode = .separate)) := by unfold writeOverride; split <;> simp_all
@[simp] theorem writeOverride_pend (s : State) : (writeOverride s).pend = s.pend := by unfold writeOverride; split <;> simp_all
@[simp] theorem writeOverride_dly (s : State) : (writeOverride s).dly = s.dly := by unfold writeOverride; split <;> simp_all
@[simp] theorem writeOverride_deadline (s : State) : (writeOverride s).deadline = s.deadline := by unfold writeOverride; split <;> simp_all
@[simp] theorem writeOverride_dirty (s : State) : (writeOverride s).dirty = s.dirty := by unfold writeOverride; split <;> simp_all
@[simp] theorem writeOverride_ovr (s : State) : (writeOverride s).ovr = (s.ovr && decide (s.cfg.ovrMode = .aliasEnable)) := by unfold writeOverride; split <;> simp_all
@[simp] theorem writeOverride_out (s : State) : (writeOverride s).out = s.out := by unfold writeOverride; split <;> simp_all
@[simp] theorem writeOverride_tick (s : State) : (writeOverride s).tick = s.tick := by unfold writeOverride; split <;> simp_all
@[simp] theorem writeOverride_ovf (s : State) : (writeOverride s).ovf = s.ovf := by unfold writeOverride; split <;> simp_all
@[simp] theorem writeOverride_ovfPend (s : State) : (writeOverride s).ovfPend = s.ovfPend := by unfold writeOverride; split <;> simp_all
@[simp] theorem writeOverride_rxBuf (s : State) : (writeOverride s).rxBuf = s.rxBuf := by unfold writeOverride; split <;> simp_all
@[simp] theorem writeOverride_sph (s : State) : (writeOverride s).sph = s.sph := by unfold writeOverride; split <;> simp_all
@[simp] theorem writeOverride_now (s : State) : (writeOverride s).now = s.now := by unfold writeOverride; split <;> simp_all
@[simp] theorem writeOverride_g (s : State) : (writeOverride s).g = s.g := by unfold writeOverride; split <;> simp_all
@[simp] theorem writeOverride_fOvfLost (s : State) : (writeOverride s).fOvfLost = s.fOvfLost := by unfold writeOverride; split <;> simp_all
@[simp] theorem writeOverride_fClockWrap (s : State) : (writeOverride s).fClockWrap = s.fClockWrap := by unfold writeOverride; split <;> simp_all
@[simp] theorem writeOverride_fDeadlineWrap (s : State) : (writeOverride s).fDeadlineWrap = s.fDeadlineWrap := by unfold writeOverride; split <;> simp_all
@[simp] theorem writeOverride_store (s : State) : (writeOverride s).store = s.store := by unfold writeOverride; split <;> simp_all
@[simp] theorem writeOverride_pinLog (s : State) : (writeOverride s).pinLog = s.pinLog := by unfold writeOverride; split <;> simp_all
@[simp] theorem writeOverride_storeLog (s : State) : (writeOverride s).storeLog = s.storeLog := by unfold writeOverride; split <;> simp_all
@[simp] theorem writeOverride_turns (s : State) : (writeOverride s).turns = s.turns := by unfold writeOverride; split <;> simp_all
@[simp] theorem writeOverride_draws (s : State) : (writeOverride s).draws = s.draws := by unfold writeOverride; split <;> simp_all

/-! ### `raiseFault` -/

@[simp] theorem raiseFault_cfg (f : Fault) (s : State) : (raiseFault f s).cfg = s.cfg := by cases f <;> simp [raiseFault]
@[simp] theorem raiseFault_en (f : Fault) (s : State) : (raiseFault f s).en = s.en := by cases f <;> simp [raiseFault]
@[simp] theorem raiseFault_pend (f : Fault) (s : State) : (raiseFault f s).pend = s.pend := by cases f <;> simp [raiseFault]
@[simp] theorem raiseFault_dly (f : Fault) (s : State) : (raiseFault f s).dly = s.dly := by cases f <;> simp [raiseFault]
@[simp] theorem raiseFault_deadline (f : Fault) (s : State) : (raiseFault f s).deadline = s.deadline := by cases f <;> simp [raiseFault]
@[simp] theorem raiseFault_dirty (f : Fault) (s : State) : (raiseFault f s).dirty = s.dirty := by cases f <;> simp [raiseFault]
@[simp] theorem raiseFault_ovr (f : Fault) (s : State) : (raiseFault f s).ovr = s.ovr := by cases f <;> simp [raiseFault]
@[simp] theorem raiseFault_out (f : Fault) (s : State) : (raiseFault f s).out = s.out := by cases f <;> simp [raiseFault]
@[simp] theorem raiseFault_tick (f : Fault) (s : State) : (raiseFault f s).tick = s.tick := by cases f <;> simp [raiseFault]
@[simp] theorem raiseFault_ovf (f : Fault) (s : State) : (raiseFault f s).ovf = s.ovf := by cases f <;> simp [raiseFault]
@[simp] theorem raiseFault_ovfPend (f : Fault) (s : State) : (raiseFault f s).ovfPend = s.ovfPend := by cases f <;> simp [raiseFault]
@[simp] theorem raiseFault_rxBuf (f : Fault) (s : State) : (raiseFault f s).rxBuf = s.rxBuf := by cases f <;> simp [raiseFault]
@[simp] theorem raiseFault_sph (f : Fault) (s : State) : (raiseFault f s).sph = s.sph := by cases f <;> simp [raiseFault]
@[simp] theorem raiseFault_now (f : Fault) (s : State) : (raiseFault f s).now = s.now := by cases f <;> simp [raiseFault]
@[simp] theorem raiseFault_g (f : Fault) (s : State) : (raiseFault f s).g = s.g := by cases f <;> simp [raiseFault]
@[simp] theorem raiseFault_fOvfLost (f : Fault) (s : State) : (raiseFault f s).fOvfLost = (s.fOvfLost || decide (f = .ovfLost)) := by cases f <;> simp [raiseFault]
@[simp] theorem raiseFault_fClockWrap (f : Fault) (s : State) : (raiseFault f s).fClockWrap = (s.fClockWrap || decide (f = .clockWrap)) := by cases f <;> simp [raiseFault]
@[simp] theorem raiseFault_fDeadlineWrap (f : Fault) (s : State) : (raiseFault f s).fDeadlineWrap = (s.fDeadlineWrap || decide (f = .deadlineWrap)) := by cases f <;> simp [raiseFault]
@[simp] theorem raiseFault_store (f : Fault) (s : State) : (raiseFault f s).store = s.store := by cases f <;> simp [raiseFault]
@[simp] theorem raiseFault_pinLog (f : Fault) (s : State) : (raiseFault f s).pinLog = s.pinLog := by cases f <;> simp [raiseFault]
@[simp] theorem raiseFault_storeLog (f : Fault) (s : State) : (raiseFault f s).storeLog = s.storeLog := by cases f <;> simp [raiseFault]
@[simp] theorem raiseFault_turns (f : Fault) (s : State) : (raiseFault f s).turns = s.turns := by cases f <;> simp [raiseFault]
@[simp] theorem raiseFault_draws (f : Fault) (s : State) : (raiseFault f s).draws = s.draws := by cases f <;> simp [raiseFault]

/-! ### `raiseWhen` -/

@[simp] theorem raiseWhen_cfg (c : Bool) (f : Fault) (s : State) : (raiseWhen c f s).cfg = s.cfg := by cases c <;> simp [raiseWhen]
@[simp] theorem raiseWhen_en (c : Bool) (f : Fault) (s : State) : (raiseWhen c f s).en = s.en := by cases c <;> simp [raiseWhen]
@[simp] theorem raiseWhen_pend (c : Bool) (f : Fault) (s : State) : (raiseWhen c f s).pend = s.pend := by cases c <;> simp [raiseWhen]
@[simp] theorem raiseWhen_dly (c : Bool) (f : Fault) (s : State) : (raiseWhen c f s).dly = s.dly := by cases c <;> simp [raiseWhen]
@[simp] theorem raiseWhen_deadline (c : Bool) (f : Fault) (s : State) : (raiseWhen c f s).deadline = s.deadline := by cases c <;> simp [raiseWhen]
@[simp] theorem raiseWhen_dirty (c : Bool) (f : Fault) (s : State) : (raiseWhen c f s).dirty = s.dirty := by cases c <;> simp [raiseWhen]
@[simp] theorem raiseWhen_ovr (c : Bool) (f : Fault) (s : State) : (raiseWhen c f s).ovr = s.ovr := by cases c <;> simp [raiseWhen]
@[simp] theorem raiseWhen_out (c : Bool) (f : Fault) (s : State) : (raiseWhen c f s).out = s.out := by cases c <;> simp [raiseWhen]
@[simp] theorem raiseWhen_tick (c : Bool) (f : Fault) (s : State) : (raiseWhen c f s).tick = s.tick := by cases c <;> simp [raiseWhen]
@[simp] theorem raiseWhen_ovf (c : Bool) (f : Fault) (s : State) : (raiseWhen c f s).ovf = s.ovf := by cases c <;> simp [raiseWhen]
@[simp] theorem raiseWhen_ovfPend (c : Bool) (f : Fault) (s : State) : (raiseWhen c f s).ovfPend = s.ovfPend := by cases c <;> simp [raiseWhen]
@[simp] theorem raiseWhen_rxBuf (c : Bool) (f : Fault) (s : State) : (raiseWhen c f s).rxBuf = s.rxBuf := by cases c <;> simp [raiseWhen]
@[simp] theorem raiseWhen_sph (c : Bool) (f : Fault) (s : State) : (raiseWhen c f s).sph = s.sph := by cases c <;> simp [raiseWhen]
@[simp] theorem raiseWhen_now (c : Bool) (f : Fault) (s : State) : (raiseWhen c f s).now = s.now := by cases c <;> simp [raiseWhen]
@[simp] theorem raiseWhen_g (c : Bool) (f : Fault) (s : State) : (raiseWhen c f s).g = s.g := by cases c <;> simp [raiseWhen]
@[simp] theorem raiseWhen_fOvfLost (c : Bool) (f : Fault) (s : State) : (raiseWhen c f s).fOvfLost = (s.fOvfLost || (c && decide (f = .ovfLost))) := by cases c <;> simp [raiseWhen]
@[simp] theorem raiseWhen_fClockWrap (c : Bool) (f : Fault) (s : State) : (raiseWhen c f s).fClockWrap = (s.fClockWrap || (c && decide (f = .clockWrap))) := by cases c <;> simp [raiseWhen]
@[simp] theorem raiseWhen_fDeadlineWrap (c : Bool) (f : Fault) (s : State) : (raiseWhen c f s).fDeadlineWrap = (s.fDeadlineWrap || (c && decide (f = .deadlineWrap))) := by cases c <;> simp [raiseWhen]
@[simp] theorem raiseWhen_store (c : Bool) (f : Fault) (s : State) : (raiseWhen c f s).store = s.store := by cases c <;> simp [raiseWhen]
@[simp] theorem raiseWhen_pinLog (c : Bool) (f : Fault) (s : State) : (raiseWhen c f s).pinLog = s.pinLog := by cases c <;> simp [raiseWhen]
@[simp] theorem raiseWhen_storeLog (c : Bool) (f : Fault) (s : State) : (raiseWhen c f s).storeLog = s.storeLog := by cases c <;> simp [raiseWhen]
@[simp] theorem raiseWhen_turns (c : Bool) (f : Fault) (s : State) : (raiseWhen c f s).turns = s.turns := by cases c <;> simp [raiseWhen]
@[simp] theorem raiseWhen_draws (c : Bool) (f : Fault) (s : State) : (raiseWhen c f s).draws = s.draws := by cases c <;> simp [raiseWhen]

/-! ### `afterArg` -/

@[simp] theorem afterArg_cfg (arg : Option Byte) (s : State) : (afterArg arg s).cfg = s.cfg := by cases arg <;> simp [afterArg]
@[simp] theorem afterArg_en (arg : Option Byte) (s : State) : (afterArg arg s).en = s.en := by cases arg <;> simp [afterArg]
@[simp] theorem afterArg_pend (arg : Option Byte) (s : State) : (afterArg arg s).pend = s.pend := by cases arg <;> simp [afterArg]
@[simp] theorem afterArg_dly (arg : Option Byte) (s : State) : (afterArg arg s).dly = s.dly := by cases arg <;> simp [afterArg]
@[simp] theorem afterArg_deadline (arg : Option Byte) (s : State) : (afterArg arg s).deadline = s.deadline := by cases arg <;> simp [afterArg]
@[simp] theorem afterArg_dirty (arg : Option Byte) (s : State) : (afterArg arg s).dirty = s.dirty := by cases arg <;> simp [afterArg]
@[simp] theorem afterArg_ovr (arg : Option Byte) (s : State) : (afterArg arg s).ovr = s.ovr := by cases arg <;> simp [afterArg]
@[simp] theorem afterArg_out (arg : Option Byte) (s : State) : (afterArg arg s).out = s.out := by cases arg <;> simp [afterArg]
@[simp] theorem afterArg_tick (arg : Option Byte) (s : State) : (afterArg arg s).tick = s.tick := by cases arg <;> simp [afterArg]
@[simp] theorem afterArg_ovf (arg : Option Byte) (s : State) : (afterArg arg s).ovf = s.ovf := by cases arg <;> simp [afterArg]
@[simp] theorem afterArg_ovfPend (arg : Option Byte) (s : State) : (afterArg arg s).ovfPend = s.ovfPend := by cases arg <;> simp [afterArg]
@[simp] theorem afterArg_rxBuf (arg : Option Byte) (s : State) : (afterArg arg s).rxBuf = s.rxBuf := by cases arg <;> simp [afterArg]
@[simp] theorem afterArg_sph (arg : Option Byte) (s : State) : (afterArg arg s).sph = s.sph := by cases arg <;> simp [afterArg]
@[simp] theorem afterArg_now (arg : Option Byte) (s : State) : (afterArg arg s).now = s.now := by cases arg <;> simp [afterArg]
@[simp] theorem afterArg_g (arg : Option Byte) (s : State) : (afterArg arg s).g = s.g := by cases arg <;> simp [afterArg]
@[simp] theorem afterArg_fOvfLost (arg : Option Byte) (s : State) : (afterArg arg s).fOvfLost = s.fOvfLost := by cases arg <;> simp [afterArg]
@[simp] theorem afterArg_fClockWrap (arg : Option Byte) (s : State) : (afterArg arg s).fClockWrap = s.fClockWrap := by cases arg <;> simp [afterArg]
@[simp] theorem afterArg_fDeadlineWrap (arg : Option Byte) (s : State) : (afterArg arg s).fDeadlineWrap = s.fDeadlineWrap := by cases arg <;> simp [afterArg]
@[simp] theorem afterArg_store (arg : Option Byte) (s : State) : (afterArg arg s).store = s.store := by cases arg <;> simp [afterArg]
@[simp] theorem afterArg_pinLog (arg : Option Byte) (s : State) : (afterArg arg s).pinLog = s.pinLog := by cases arg <;> simp [afterArg]
@[simp] theorem afterArg_storeLog (arg : Option Byte) (s : State) : (afterArg arg s).storeLog = s.storeLog := by cases arg <;> simp [afterArg]
@[simp] theorem afterArg_turns (arg : Option Byte) (s : State) : (afterArg arg s).turns = s.turns := by cases arg <;> simp [afterArg]
@[simp] theorem afterArg_draws (arg : Option Byte) (s : State) : (afterArg arg s).draws = s.draws + (if arg = none then 1 else 0) := by cases arg <;> simp [afterArg]

/-! ### `afterTurn` -/

@[simp] theorem afterTurn_cfg (s : State) : (afterTurn s).cfg = s.cfg := by unfold afterTurn; split <;> rfl
@[simp] theorem afterTurn_en (s : State) : (afterTurn s).en = s.en := by unfold afterTurn; split <;> rfl
@[simp] theorem afterTurn_pend (s : State) : (afterTurn s).pend = s.pend := by unfold afterTurn; split <;> rfl
@[simp] theorem afterTurn_dly (s : State) : (afterTurn s).dly = s.dly := by unfold afterTurn; split <;> rfl
@[simp] theorem afterTurn_deadline (s : State) : (afterTurn s).deadline = s.deadline := by unfold afterTurn; split <;> rfl
@[simp] theorem afterTurn_dirty (s : State) : (afterTurn s).dirty = s.dirty := by unfold afterTurn; split <;> rfl
@[simp] theorem afterTurn_ovr (s : State) : (afterTurn s).ovr = s.ovr := by unfold afterTurn; split <;> rfl
@[simp] theorem afterTurn_out (s : State) : (afterTurn s).out = s.out := by unfold afterTurn; split <;> rfl
@[simp] theorem afterTurn_tick (s : State) : (afterTurn s).tick = s.tick := by unfold afterTurn; split <;> rfl
@[simp] theorem afterTurn_ovf (s : State) : (afterTurn s).ovf = s.ovf := by unfold afterTurn; split <;> rfl
@[simp] theorem afterTurn_ovfPend (s : State) : (afterTurn s).ovfPend = s.ovfPend := by unfold afterTurn; split <;> rfl
@[simp] theorem afterTurn_rxBuf (s : State) : (afterTurn s).rxBuf = s.rxBuf := by unfold afterTurn; split <;> rfl
@[simp] theorem afterTurn_sph (s : State) : (afterTurn s).sph = s.sph := by unfold afterTurn; split <;> rfl
@[simp] theorem afterTurn_now (s : State) : (afterTurn s).now = s.now := by unfold afterTurn; split <;> rfl
@[simp] theorem afterTurn_g (s : State) : (afterTurn s).g = s.g := by unfold afterTurn; split <;> rfl
@[simp] theorem afterTurn_fOvfLost (s : State) : (afterTurn s).fOvfLost = s.fOvfLost := by unfold afterTurn; split <;> rfl
@[simp] theorem afterTurn_fClockWrap (s : State) : (afterTurn s).fClockWrap = s.fClockWrap := by unfold afterTurn; split <;> rfl
@[simp] theorem afterTurn_fDeadlineWrap (s : State) : (afterTurn s).fDeadlineWrap = s.fDeadlineWrap := by unfold afterTurn; split <;> rfl
@[simp] theorem afterTurn_store (s : State) : (afterTurn s).store = s.store := by unfold afterTurn; split <;> rfl
@[simp] theorem afterTurn_pinLog (s : State) : (afterTurn s).pinLog = s.pinLog := by unfold afterTurn; split <;> rfl
@[simp] theorem afterTurn_storeLog (s : State) : (afterTurn s).storeLog = s.storeLog := by unfold afterTurn; split <;> rfl
@[simp] theorem afterTurn_turns (s : State) : (afterTurn s).turns = s.turns.tail := by
  unfold afterTurn; split <;> simp_all
@[simp] theorem afterTurn_draws (s : State) :
    (afterTurn s).draws = s.draws + (if s.turns = [] then 1 else 0) := by
  unfold afterTurn; split <;> simp_all

end Sys2Proof.Machine
end

