-- ==== Sys2Proof/Laws/Memory.lean ====
section
/-! SUPPORT. The durable store: a read gives the last write, a write leaves every other address alone, and every
operation keeps the canonical form. -/

namespace Sys2Proof.Machine

open Sys2Proof

theorem wfFrom_weaken {init : Byte} {lo lo' : Nat} (h : lo' ≤ lo) :
    ∀ {m : List Host.Cell}, Memory.wfFrom init lo m = true → Memory.wfFrom init lo' m = true
  | [], _ => rfl
  | (k, v) :: m, hm => by
    simp only [Memory.wfFrom, Bool.and_eq_true, decide_eq_true_eq] at hm ⊢
    exact ⟨⟨⟨by omega, hm.1.1.2⟩, hm.1.2⟩, hm.2⟩

/-- Below the first listed address a canonical list reads as unlisted. -/
theorem read_below {init : Byte} {lo a : Nat} (ha : a < lo) :
    ∀ {m : List Host.Cell}, Memory.wfFrom init lo m = true → Memory.read init m a = init
  | [], _ => rfl
  | (k, v) :: m, hm => by
    simp only [Memory.wfFrom, Bool.and_eq_true, decide_eq_true_eq] at hm
    have hne : k ≠ a := by omega
    simp only [Memory.read, if_neg hne]
    exact read_below (lo := k + 1) (by omega) hm.2

theorem read_write_same {init : Byte} {a : Nat} {v : Byte} :
    ∀ {lo : Nat} {m : List Host.Cell}, Memory.wfFrom init lo m = true →
      Memory.read init (Memory.write init m a v) a = v
  | _, [], _ => by
    by_cases hv : v = init <;> simp [Memory.write, Memory.read, hv]
  | lo, (k, w) :: m, hm => by
    have hall := hm
    simp only [Memory.wfFrom, Bool.and_eq_true, decide_eq_true_eq] at hm
    unfold Memory.write
    split
    · rename_i hlt
      split
      · rename_i hv
        have hne : k ≠ a := by omega
        simp only [Memory.read, if_neg hne, hv]
        exact read_below (lo := k + 1) (by omega) hm.2
      · simp [Memory.read]
    · split
      · rename_i hk
        split
        · rename_i hv
          rw [hv]
          exact read_below (lo := k + 1) (by omega) hm.2
        · simp [Memory.read]
      · rename_i hne
        simp only [Memory.read, if_neg hne]
        exact read_write_same hm.2

theorem read_write_other {init : Byte} {a b : Nat} {v : Byte} (hab : b ≠ a) :
    ∀ {m : List Host.Cell}, Memory.read init (Memory.write init m a v) b = Memory.read init m b
  | [] => by by_cases hv : v = init <;> simp [Memory.write, Memory.read, hv, hab.symm]
  | (k, w) :: m => by
    unfold Memory.write
    split
    · split
      · rfl
      · simp [Memory.read, hab.symm]
    · split
      · rename_i hk
        subst hk
        split <;> simp [Memory.read, hab.symm]
      · simp only [Memory.read]
        split
        · rfl
        · exact read_write_other hab

theorem write_wfFrom {init : Byte} {a : Nat} {v : Byte} (ha : a < Config.storeSize) :
    ∀ {lo : Nat} {m : List Host.Cell}, lo ≤ a → Memory.wfFrom init lo m = true →
      Memory.wfFrom init lo (Memory.write init m a v) = true
  | lo, [], hlo, _ => by
    by_cases hv : v = init <;> simp [Memory.write, Memory.wfFrom, hv, hlo, ha]
  | lo, (k, w) :: m, hlo, hm => by
    have hall := hm
    simp only [Memory.wfFrom, Bool.and_eq_true, decide_eq_true_eq] at hm
    unfold Memory.write
    split
    · rename_i hlt
      split
      · exact hall
      · rename_i hv
        simp only [Memory.wfFrom, Bool.and_eq_true, decide_eq_true_eq]
        exact ⟨⟨⟨hlo, ha⟩, hv⟩, ⟨⟨by omega, hm.1.1.2⟩, hm.1.2⟩, hm.2⟩
    · split
      · rename_i hk
        subst hk
        split
        · exact wfFrom_weaken (by omega) hm.2
        · rename_i hv
          simp only [Memory.wfFrom, Bool.and_eq_true, decide_eq_true_eq]
          exact ⟨⟨⟨hlo, ha⟩, hv⟩, hm.2⟩
      · simp only [Memory.wfFrom, Bool.and_eq_true, decide_eq_true_eq]
        exact ⟨hm.1, write_wfFrom ha (by omega) hm.2⟩

/-- `MemWrite` keeps the canonical form (20_memory.md R43). -/
theorem memWrite_wf (a : StoreAddr) (v : Byte) (s : State) (h : Memory.wf s.cfg.storeInit s.store = true) :
    Memory.wf (memWrite a v s).cfg.storeInit (memWrite a v s).store = true :=
  write_wfFrom a.isLt (Nat.zero_le _) h

/-- The store is canonical after reset: it lists nothing. -/
theorem reset_store_wf : Memory.wf State.reset.cfg.storeInit State.reset.store = true := rfl

/-- `MemRead` after `MemWrite` at the same address gives the value written (20_memory.md R43). -/
theorem memRead_memWrite_same (a : StoreAddr) (v : Byte) (s : State)
    (h : Memory.wf s.cfg.storeInit s.store = true) : memRead a (memWrite a v s) = v :=
  read_write_same h

/-- A write leaves every other address alone. -/
theorem memRead_memWrite_other (a b : StoreAddr) (v : Byte) (s : State) (h : b ≠ a) :
    memRead b (memWrite a v s) = memRead b s :=
  read_write_other (fun e => h (Fin.ext e))

/-- A read depends on the store and on `STORE_INIT` alone. -/
theorem memRead_congr (a : StoreAddr) {s t : State} (hs : t.store = s.store)
    (hc : t.cfg.storeInit = s.cfg.storeInit) : memRead a t = memRead a s := by
  simp only [memRead, hs, hc]

end Sys2Proof.Machine
end

