-- ==== Sys2Proof/Laws/Steps.lean ====
section
/-! SUPPORT. What each shared operation and each agent's step can do, said once: the equations the provers cite
instead of unfolding. -/

namespace Sys2Proof.Machine

open Sys2Proof

/-! ### Conditions do not see the turns -/

@[simp] theorem rxPend_afterTurn (s : State) : (afterTurn s).rxPend = s.rxPend := by simp [State.rxPend]

@[simp] theorem combinedCount_afterTurn (s : State) : combinedCount (afterTurn s) = combinedCount s := by
  simp [combinedCount]

@[simp] theorem memRead_afterTurn (a : StoreAddr) (s : State) : memRead a (afterTurn s) = memRead a s := by
  simp [memRead]

@[simp] theorem deadlineExpired_afterTurn (s : State) : deadlineExpired (afterTurn s) = deadlineExpired s := by
  simp [deadlineExpired]

@[simp] theorem overflowLost_afterTurn (s : State) : overflowLost (afterTurn s) = overflowLost s := by
  simp [overflowLost, tickWraps]

@[simp] theorem turnEnabled_afterTurn (t : Turn) (s : State) : turnEnabled t (afterTurn s) = turnEnabled t s := by
  cases t <;> simp [turnEnabled, tickerEnabled, interruptsEnabled, rxEnabled]

/-- The turns listed decide the next one. -/
theorem nextTurn_cons {s : State} {t : Turn} {ts : List Turn} (h : s.turns = t :: ts) : nextTurn s = t := by
  simp [nextTurn, h]

/-! ### Commands -/

/-- Everything a command can do: the eight meanings, each a next state (40_dispatch.md R78 to R85). -/
theorem exec_cases {i : Instr} {s t : State} (h : exec i s = .next t) :
    (i = .on ∧ t = pinWrite true (writeOverride s)) ∨
    (i = .off ∧ t = pinWrite false (writeOverride s)) ∨
    (i = .arm ∧ t = { s with pend := true }) ∨
    (∃ arg, i = .setdly arg ∧ t = { afterArg arg s with dly := argValue arg s }) ∨
    (i = .save ∧ t = { s with dirty := true }) ∨
    (∃ arg, i = .setsave arg ∧ t = { afterArg arg s with dly := argValue arg s, dirty := true }) ∨
    (i = .disable ∧ t = { s with en := false }) ∨
    (i = .enable ∧ t = { s with en := true }) := by
  cases i <;>
    simp only [exec, execOn, execOff, execArm, execSetdly, execSave, execSetsave, execDisable, execEnable,
      Host.Outcome.next.injEq] at h <;> subst h <;> simp

/-! ### The agents' steps -/

/-- What a tick can do (42_cycle_clock.md R113): count, wrap, or wrap on a set request; then the exhaustion bit. -/
theorem tickerStep_eq (s : State) :
    tickerStep s =
      { s with
        tick := if tickWraps s then 0 else s.tick + 1
        ovfPend := s.ovfPend || tickWraps s
        fOvfLost := s.fOvfLost || overflowLost s
        fClockWrap := s.fClockWrap || clockExhausted (countTick s) } := by
  unfold tickerStep raiseWhen countTick overflowLost
  cases hw : tickWraps s <;> cases hp : s.ovfPend <;> simp <;> split <;> simp_all [raiseFault]

/-- The combined count a tick leaves, before the exhaustion test. -/
theorem combinedCount_countTick (s : State) :
    combinedCount (countTick s) =
      (s.ovf.toNat + (s.ovfPend || tickWraps s).toNat) * s.cfg.tpo + (if tickWraps s then 0 else s.tick + 1) := by
  unfold countTick combinedCount
  cases hw : tickWraps s <;> cases hp : s.ovfPend <;> simp [raiseFault]

@[simp] theorem combinedCount_tickerStep (s : State) :
    combinedCount (tickerStep s) = combinedCount (countTick s) := by
  rw [combinedCount_countTick, tickerStep_eq]
  rfl

/-- The overflow handler (42_cycle_clock.md R117). -/
theorem ovfsvcStep_eq (s : State) : ovfsvcStep s = { s with ovf := s.ovf + 1, ovfPend := false } := rfl

@[simp] theorem sersvcStep_eq (s : State) : sersvcStep s = s := rfl

/-- A DISPATCH step with a packet (40_dispatch.md R74, R87): its class, then the flush. -/
theorem dispatchStep_eq {s : State} {p : Packet} (h : s.rxBuf = some p) :
    dispatchStep s = mapNext flush (performClass (decode s.cfg p) s) := by
  simp only [dispatchStep, h]
  rfl

/-- Everything a DISPATCH step can do: nothing without a packet, the flush alone for a discard class, a command's
meaning and the flush otherwise. -/
theorem dispatchStep_cases {s t : State} (h : dispatchStep s = .next t) :
    (s.rxBuf = none ∧ t = s) ∨
    (∃ p, s.rxBuf = some p ∧ (∀ i, decode s.cfg p ≠ .command i) ∧ t = flush s) ∨
    (∃ p i u, s.rxBuf = some p ∧ decode s.cfg p = .command i ∧ exec i s = .next u ∧ t = flush u) := by
  cases hb : s.rxBuf with
  | none =>
    simp only [dispatchStep, hb, Host.Outcome.next.injEq] at h
    exact .inl ⟨rfl, h.symm⟩
  | some p =>
    rw [dispatchStep_eq hb] at h
    cases hd : decode s.cfg p with
    | command i =>
      cases he : exec i s with
      | next u =>
        simp only [hd, performClass, he, mapNext, Host.Outcome.next.injEq] at h
        exact .inr (.inr ⟨p, i, u, rfl, hd, he, h.symm⟩)
      | fault r => simp [hd, performClass, he, mapNext] at h
      | refused r => simp [hd, performClass, he, mapNext] at h
    | dropRxFail | dropShort | dropAddr | unknown =>
      simp only [hd, performClass, mapNext, Host.Outcome.next.injEq] at h
      exact .inr (.inl ⟨p, rfl, by simp [hd], h.symm⟩)

/-- The dirty latch (41_scheduler.md R97). -/
theorem dirtyLatch_eq (s : State) :
    dirtyLatch s = if s.dirty then memWrite Config.delayAddr s.dly { s with dirty := false } else s := rfl

/-- The arm latch (41_scheduler.md R99). -/
theorem armLatch_eq (s : State) :
    armLatch s =
      if s.pend then
        { s with
          pend := false
          fDeadlineWrap := s.fDeadlineWrap || deadlineWraps s
          deadline := BitVec.ofNat 64 (deadlineSum s)
          out := true
          pinLog := s.pinLog ++ [.pin true] }
      else s := by
  unfold armLatch
  cases hp : s.pend
  · simp
  · have hw : deadlineWraps { s with pend := false } = deadlineWraps s := rfl
    have hs : deadlineSum { s with pend := false } = deadlineSum s := rfl
    simp only [hw, hs, if_true]
    cases deadlineWraps s <;> simp [raiseWhen, raiseFault, pinWrite]

/-- The comparator (41_scheduler.md R101). -/
theorem comparator_eq (s : State) :
    comparator s =
      if deadlineExpired s then
        { s with deadline := 0, out := false, pinLog := s.pinLog ++ [.pin false] }
      else s := rfl

/-! ### One step -/

/-- A turn whose agent is enabled performs that agent's step. -/
theorem step_of_enabled {t : Turn} {s : State} (hn : nextTurn s = t) (he : turnEnabled t s = true) :
    step s = performTurn t (afterTurn s) := by
  simp [step, runTurn, hn, he]

/-- A turn whose agent is not enabled is idle (00_scope.md R11). -/
theorem step_of_idle {s : State} (he : turnEnabled (nextTurn s) s = false) : step s = .next (afterTurn s) := by
  simp [step, runTurn, he]

/-- Everything a step can do: an idle turn, or the step of the agent whose turn it is, from the state whose turn
list is already shorter. -/
theorem step_cases {s t : State} (h : step s = .next t) :
    (turnEnabled (nextTurn s) s = false ∧ t = afterTurn s) ∨
    (turnEnabled (nextTurn s) s = true ∧
      ((nextTurn s = .ticker ∧ t = tickerStep (afterTurn s)) ∨
       (nextTurn s = .ovfsvc ∧ t = ovfsvcStep (afterTurn s)) ∨
       (nextTurn s = .dispatch ∧ dispatchStep (afterTurn s) = .next t) ∨
       (nextTurn s = .sersvc ∧ t = afterTurn s) ∨
       (nextTurn s = .sched ∧ t = schedStep (afterTurn s)) ∨
       (∃ p, nextTurn s = .rx p ∧ t = rxStep p (afterTurn s)) ∨
       (nextTurn s = .reset ∧ t = resetStep (afterTurn s)))) := by
  simp only [step, runTurn, turnEnabled_afterTurn] at h
  cases he : turnEnabled (nextTurn s) s with
  | false =>
    rw [he] at h
    simp only [Bool.false_eq_true, if_false, Host.Outcome.next.injEq] at h
    exact .inl ⟨rfl, h.symm⟩
  | true =>
    rw [he] at h
    simp only [if_true] at h
    refine .inr ⟨rfl, ?_⟩
    cases ht : nextTurn s <;> rw [ht] at h <;>
      simp only [performTurn, Host.Outcome.next.injEq, sersvcStep_eq] at h <;> simp_all

end Sys2Proof.Machine
end

