-- ==== Sys2Proof/Laws/PerInstr.lean ====
section
/-! SUPPORT. A statement for all commands, one lemma per constructor: the packet of a command that is well-formed
on a node is one the transceiver of that node can deliver (30_encoding.md R57, R69). -/

namespace Sys2Proof.Laws

open Sys2Proof

/-- The encoded packet is a successful receive no longer than `MAX_PAYLOAD`, and not too short to decode. -/
def Deliverable.Statement (i : Instr) : Prop :=
  ∀ c : Config, c.WF → i.wellFormed c = true →
    (encode c i).ok = true ∧ 2 ≤ (encode c i).len ∧ (encode c i).len ≤ c.maxPayload

theorem deliverable_no_arg {c : Config} (h : c.WF) (i : Instr) (ha : argOf i = none) :
    (encode c i).ok = true ∧ 2 ≤ (encode c i).len ∧ (encode c i).len ≤ c.maxPayload := by
  have h2 := h.2.2
  simp [encode, Packet.len, ha, h2]

theorem deliverable_arg {c : Config} (h : c.WF) (i : Instr) (hw : argWellFormed c (argOf i) = true) :
    (encode c i).ok = true ∧ 2 ≤ (encode c i).len ∧ (encode c i).len ≤ c.maxPayload := by
  cases ha : argOf i with
  | none => exact deliverable_no_arg h i ha
  | some v =>
    rw [ha] at hw
    have h3 : 3 ≤ c.maxPayload := by simpa [argWellFormed] using hw
    simp [encode, Packet.len, ha, h3]

theorem Deliverable.on : Deliverable.Statement .on := fun _ h _ => deliverable_no_arg h _ rfl
theorem Deliverable.off : Deliverable.Statement .off := fun _ h _ => deliverable_no_arg h _ rfl
theorem Deliverable.arm : Deliverable.Statement .arm := fun _ h _ => deliverable_no_arg h _ rfl
theorem Deliverable.setdly (arg : Option Byte) : Deliverable.Statement (.setdly arg) :=
  fun _ h hw => deliverable_arg h _ hw
theorem Deliverable.save : Deliverable.Statement .save := fun _ h _ => deliverable_no_arg h _ rfl
theorem Deliverable.setsave (arg : Option Byte) : Deliverable.Statement (.setsave arg) :=
  fun _ h hw => deliverable_arg h _ hw
theorem Deliverable.disable : Deliverable.Statement .disable := fun _ h _ => deliverable_no_arg h _ rfl
theorem Deliverable.enable : Deliverable.Statement .enable := fun _ h _ => deliverable_no_arg h _ rfl

end Sys2Proof.Laws
end

