-- ==== Sys2Proof/Tests/Slice0.lean ====
section
/-! SUPPORT. Tests whose expected values come from spec/95_test_vectors.md and the rules' own examples, the smoke test of
WellFormed, and for each statement with hypotheses a state and operands that meet them. -/

namespace Sys2Proof.Tests

open Sys2Proof Sys2Proof.Machine

/-- The example configuration of 95_test_vectors.md section 0, with `STORE_INIT = 5`. -/
def node : Config where
  familyId := 0xA5
  tpo := 256
  tps := 1000
  maxPayload := 32
  ovrMode := .aliasEnable
  deadlineGated := true
  ovfLossMode := .fault
  argAbsent := .draw
  enReset := false
  storeInit := 5

/-- A state of that node at S1 with every register 0. -/
def base : State := { State.reset with cfg := node, tick := 0, now := 0, g := false, sph := .s1 }

/-- `base` with the turn `t` next. -/
def atTurn (t : Turn) : State := { base with turns := [t] }

/-- `base` with the scheduler at phase `ph` and its turn next. -/
def atPhase (ph : Phase) : State := { base with sph := ph, turns := [.sched] }

/-- `base` with a received packet of bytes `b` and DISPATCH's turn next. -/
def received (b : List Byte) : State := { base with rxBuf := some ⟨true, b⟩, turns := [.dispatch] }

/-- The next state of one step passes the check `f`. -/
def after (s : State) (f : State → Bool) : Bool :=
  match step s with
  | .next t => f t
  | .fault _ => false
  | .refused _ => false

/-! ### WellFormed: each check refuses an ill-formed term -/

theorem test_wellFormed_refuses_absent_arg_under_discard :
    Instr.wellFormed { node with argAbsent := .discard } (.setdly none) = false ∧
    Instr.wellFormed { node with argAbsent := .discard } (.setsave none) = false := by decide

theorem test_wellFormed_refuses_long_packet_on_small_node :
    Instr.wellFormed { node with maxPayload := 2 } (.setdly (some 1)) = false ∧
    Instr.wellFormed { node with maxPayload := 2 } (.setsave (some 1)) = false := by decide

/-! ### Decoding: words written out from the encodings of opcode_table.json -/

theorem test_decode_on : decodeTableWord 24 0b101001010110010000000000 = some .on := by decide
theorem test_decode_off : decodeTableWord 24 0b101001010110010100000000 = some .off := by decide
theorem test_decode_arm : decodeTableWord 24 0b101001010110011000000000 = some .arm := by decide
theorem test_decode_setdly : decodeTableWord 24 0b101001010110011100101010 = some (.setdly (some 42)) := by decide
theorem test_decode_save : decodeTableWord 24 0b101001010110100000000000 = some .save := by decide
theorem test_decode_setsave : decodeTableWord 24 0b101001010110100100101011 = some (.setsave (some 43)) := by decide
theorem test_decode_disable : decodeTableWord 24 0b101001010110101000000000 = some .disable := by decide
theorem test_decode_enable : decodeTableWord 24 0b101001010110101100000000 = some .enable := by decide

/-- 95_test_vectors.md V-DL-3, V-DL-4, V-DL-1, V-DL-2. -/
theorem test_decode_discard_classes :
    decode node ⟨true, [0xA4, 0x6B]⟩ = .dropAddr ∧ decode node ⟨true, [0xA5, 0x63]⟩ = .unknown ∧
    decode node ⟨true, [0xA5, 0x6C]⟩ = .unknown ∧ decode node ⟨true, [0xA5, 0xFF, 0x01]⟩ = .unknown ∧
    decode node ⟨false, [0xA5, 0x6B, 0x00]⟩ = .dropRxFail ∧ decode node ⟨true, []⟩ = .dropShort ∧
    decode node ⟨true, [0xA5]⟩ = .dropShort := by decide

/-! ### Commands, one DISPATCH step each -/

/-- V-DL-5, ALIAS mode. -/
theorem test_on_alias :
    after { received [0xA5, 0x64] with en := true, pend := true, deadline := 5000 }
      (fun t => !t.en && t.out && t.pend && t.deadline == 5000 && t.pinLog == [.pin true] && t.rxBuf == none) := by decide

/-- V-DL-5, SEPARATE mode. -/
theorem test_on_separate :
    after { received [0xA5, 0x64] with en := true, ovr := true, cfg := { node with ovrMode := .separate } }
      (fun t => t.en && !t.ovr && t.out && t.pinLog == [.pin true]) := by decide

/-- V-DL-12: the event is appended even though the value repeats. -/
theorem test_off_repeats_event :
    after (received [0xA5, 0x65]) (fun t => !t.en && !t.out && t.pinLog == [.pin false]) := by decide

/-- V-DL-11: the byte after ARM's opcode is ignored. -/
theorem test_arm_ignores_byte :
    after (received [0xA5, 0x66, 0x99]) (fun t => t.pend && t.dly == 0) := by decide

/-- L1-2 case b. -/
theorem test_setdly_keeps_dirty :
    after { received [0xA5, 0x67, 0x2A] with dly := 7, dirty := true } (fun t => t.dly == 42 && t.dirty) := by decide

/-- V-DL-8 under DISCARD. -/
theorem test_setdly_without_argument_discarded :
    after { received [0xA5, 0x67] with dly := 7, cfg := { node with argAbsent := .discard } }
      (fun t => t.dly == 7 && t.rxBuf == none) := by decide

/-- The example of R82. -/
theorem test_save : after (received [0xA5, 0x68]) (fun t => t.dirty && t.storeLog == []) := by decide

/-- V-DL-10: extra bytes are ignored. -/
theorem test_setsave_extra_bytes :
    after (received [0xA5, 0x69, 0x2A, 0xFF, 0xFF]) (fun t => t.dly == 42 && t.dirty) := by decide

/-- V-DL-13. -/
theorem test_disable_keeps_countdown :
    after { received [0xA5, 0x6A] with en := true, pend := true, deadline := 61000, out := true }
      (fun t => !t.en && t.pend && t.deadline == 61000 && t.out && t.pinLog == []) := by decide

/-- V-DL-14. -/
theorem test_enable : after (received [0xA5, 0x6B]) (fun t => t.en && !t.out) := by decide

/-! ### The other steps -/

/-- V-SC-1. -/
theorem test_s2_writes :
    after { atPhase .s2 with dirty := true, dly := 42 }
      (fun t => !t.dirty && t.store == [(0, 42)] && t.storeLog == [.store 0 42] && t.sph == .s3) := by decide

/-- V-SC-2. -/
theorem test_s3a_starts :
    after { atPhase .s3a with pend := true, dly := 5, now := 1000 }
      (fun t => !t.pend && t.deadline == 301000 && t.out && t.pinLog == [.pin true] && t.sph == .s3b) := by decide

/-- V-SC-6, its first step. -/
theorem test_s3a_wraps :
    after { atPhase .s3a with pend := true, dly := 1, now := 18446744073709550616 }
      (fun t => t.fDeadlineWrap && t.deadline == 59000 && t.out) := by decide

/-- V-SC-3, at the deadline. -/
theorem test_s3b_fires_at_deadline :
    after { atPhase .s3b with deadline := 301000, now := 301000, out := true }
      (fun t => t.deadline == 0 && !t.out && t.pinLog == [.pin false]) := by decide

/-- V-SC-3, one before the deadline. -/
theorem test_s3b_waits :
    after { atPhase .s3b with deadline := 301000, now := 300999, out := true }
      (fun t => t.deadline == 301000 && t.out && t.pinLog == []) := by decide

/-- V-SC-7, its S4 step, both settings of DEADLINE_GATED. -/
theorem test_s4 :
    after { atPhase .s4 with pend := true, deadline := 5000 } (fun t => !t.pend && t.deadline == 5000 && t.sph == .s1) ∧
    after { atPhase .s4 with cfg := { node with deadlineGated := false } } (fun t => t.sph == .s3b) := by decide

/-- The example of R96, and V-CK-3. -/
theorem test_s1_reads_the_clock :
    after { atPhase .s1 with ovf := 3, tick := 16 } (fun t => t.now == 784 && t.sph == .s2) ∧
    after { atPhase .s1 with ovf := 3, ovfPend := true } (fun t => t.now == 1024) := by decide

/-- V-CK-2 and V-CK-1. -/
theorem test_tick :
    after { atTurn .ticker with ovf := 3, tick := 255 } (fun t => t.tick == 0 && t.ovfPend && t.ovf == 3 && !t.fOvfLost) ∧
    after { atTurn .ticker with tick := 16 } (fun t => t.tick == 17 && !t.ovfPend) := by decide

/-- V-CK-4, both settings of OVF_LOSS_MODE; the counts by R121, 1535 before and 1280 after (log entry 34). -/
theorem test_tick_lost_overflow :
    after { atTurn .ticker with ovf := 4, ovfPend := true, tick := 255 }
      (fun t => t.tick == 0 && t.ovfPend && t.fOvfLost && combinedCount t == 1280) ∧
    after { atTurn .ticker with ovf := 4, ovfPend := true, tick := 255, cfg := { node with ovfLossMode := .excluded } }
      (fun t => t.tick == 255 && t.ovfPend && !t.fOvfLost) := by decide

/-- V-CK-5. -/
theorem test_tick_exhausts :
    after { atTurn .ticker with ovf := 72057594037927935, tick := 255 }
      (fun t => t.tick == 0 && t.ovfPend && t.fClockWrap && clockRead t == 0) := by decide

/-- The example of R117. -/
theorem test_ovfsvc : after { atTurn .ovfsvc with ovf := 3, ovfPend := true } (fun t => t.ovf == 4 && !t.ovfPend) := by decide

/-- V-RB-1. -/
theorem test_reset :
    after { atTurn .reset with en := true, pend := true, deadline := 61000, dirty := true, out := true, ovf := 9, ovfPend := true, rxBuf := some ⟨true, []⟩, store := [(0, 42)], sph := .s3a }
      (fun t => !t.en && !t.pend && t.deadline == 0 && !t.dirty && !t.out && t.ovf == 0 && !t.ovfPend && t.rxBuf == none && t.sph == .boot && t.store == [(0, 42)] && t.pinLog == []) := by decide

/-- V-RB-2, and V-RB-4 with STORE_INIT = 5. -/
theorem test_boot :
    after { atPhase .boot with store := [(0, 42)] } (fun t => t.dly == 42 && t.sph == .s1) ∧
    after (atPhase .boot) (fun t => t.dly == 5) := by decide

/-- V-RB-3: before BOOT neither handler runs. -/
theorem test_before_boot :
    after { received [0xA5, 0x6B] with sph := .boot } (fun t => !t.en && t.rxPend) ∧
    after { atTurn .ovfsvc with sph := .boot, ovfPend := true } (fun t => t.ovfPend && t.ovf == 0) := by decide

/-- V-DL-15: a packet is delivered only into an empty buffer. -/
theorem test_rx :
    after (atTurn (.rx ⟨true, [0xA5]⟩)) (fun t => t.rxBuf == some ⟨true, [0xA5]⟩) ∧
    after { atTurn (.rx ⟨true, [0xA5]⟩) with rxBuf := some ⟨true, []⟩ } (fun t => t.rxBuf == some ⟨true, []⟩) := by decide

/-- A table word runs as the first command after reset. -/
theorem test_withFetchWord :
    after (State.reset.withFetchWord 24 0x00692A) (fun t => t.dly == 0x2A && t.dirty && t.rxBuf == none) := by decide

/-! ### Witnesses: a state and operands that meet the hypotheses of each statement -/

/-- The run of the listed turns from `s`. -/
def trace (s : State) : Nat → State
  | 0 => s
  | n + 1 =>
    match step (trace s n) with
    | .next t => t
    | .fault _ => trace s n
    | .refused _ => trace s n

/-- Step `i` of `trace s` answers a next state. -/
def goesOn (s : State) (i : Nat) : Bool := after (trace s i) (fun _ => true)

theorem isRun_trace {s : State} {n : Nat} (h : ∀ i, i < n → goesOn s i = true) : IsRun (trace s) n := by
  intro i hi
  have hg := h i hi
  unfold goesOn after at hg
  show step (trace s i) = .next (match step (trace s i) with
    | .next t => t
    | .fault _ => trace s i
    | .refused _ => trace s i)
  cases hs : step (trace s i) <;> simp_all

theorem inv_of_phase (ph : Phase) (h : ph ≠ .s3a ∧ ph ≠ .s3b) : Inv (atPhase ph) := by
  refine ⟨(by decide : node.WF), (by decide : 0 < node.tpo), fun _ h => absurd h (by simp [atPhase, base, State.reset]), rfl, rfl, ?_, fun _ => rfl, ?_, rfl⟩
  · intro hp; exact absurd hp h.1
  · intro hp; exact absurd hp h.2

theorem schedAt_atPhase (ph : Phase) : SchedAt ph (atPhase ph) := ⟨⟨rfl, rfl⟩, rfl⟩

theorem witness_DecodeOfEncodeIsTheCommand :
    Instr.wellFormed node (.setdly none) = true ∧ Instr.wellFormed node (.setsave (some 255)) = true ∧
    Instr.wellFormed node .on = true := by decide

theorem witness_DecodedPacketBeginsWithItsEncoding :
    node.WF ∧ Packet.len ⟨true, [0xA5, 0x69, 0x2A, 0xFF]⟩ ≤ node.maxPayload ∧
    decode node ⟨true, [0xA5, 0x69, 0x2A, 0xFF]⟩ = .command (.setsave (some 42)) := by
  refine ⟨?_, ?_, ?_⟩ <;> decide

/-- Every clause: a failed receive, lengths 0 and 1, a wrong address, each opcode, and 0, 99, 108, 255. -/
theorem witness_DecodeGateTestsInOrder :
    (Packet.ok ⟨false, []⟩ = false) ∧ (Packet.len ⟨true, []⟩ < 2) ∧ (Packet.len ⟨true, [0xA5]⟩ < 2) ∧
    ((0xA4 : Byte) ≠ node.familyId) ∧ ((0xA5 : Byte) = node.familyId) ∧
    (∀ o ∈ ([0, 99, 108, 255] : List Byte), o.toNat < 100 ∨ 107 < o.toNat) ∧
    ([0xA5, 103, 7] : List Byte) = node.familyId :: 103 :: 7 :: [] ∧
    ([0xA5, 105] : List Byte) = node.familyId :: 105 :: [] ∧ node.argAbsent = .draw ∧
    Config.argAbsent { node with argAbsent := .discard } = .discard := by decide

theorem witness_UnknownOpcodesAreDiscarded :
    (received [0xA5, 0x63]).rxBuf = some ⟨true, (received [0xA5, 0x63]).cfg.familyId :: 0x63 :: []⟩ ∧
    (0x63 : Byte).toNat ≤ 0x63 ∧
    (received [0xA5, 0x6C, 1]).rxBuf = some ⟨true, (received [0xA5, 0x6C, 1]).cfg.familyId :: 0x6C :: [1]⟩ ∧
    0x6C ≤ (0x6C : Byte).toNat := by decide

theorem witness_MissingArgumentIsDrawnOrDiscarded :
    (received [0xA5, 103]).rxBuf = some ⟨true, [node.familyId, 103]⟩ ∧ (received [0xA5, 103]).cfg.argAbsent = .draw ∧
    (received [0xA5, 105]).rxBuf = some ⟨true, [node.familyId, 105]⟩ ∧
    ({ received [0xA5, 105] with cfg := { node with argAbsent := .discard } } : State).cfg.argAbsent = .discard := by decide

theorem witness_BytesBeyondTheArgumentAreIgnored :
    (102 : Byte) ≠ 103 ∧ (102 : Byte) ≠ 105 ∧ (104 : Byte) ≠ 103 ∧ (104 : Byte) ≠ 105 := by decide

theorem witness_OnAndOffWriteTheOverrideAndTheOutput :
    base.cfg.ovrMode = .aliasEnable ∧
    ({ base with cfg := { node with ovrMode := .separate } } : State).cfg.ovrMode = .separate := by decide

theorem witness_EveryDispatchCompletesAndFlushes :
    Packet.len ⟨true, List.replicate 32 0⟩ ≤ base.cfg.maxPayload := by decide

theorem witness_DispatchLeavesClockSequencerAndStoreAlone :
    dispatchStep { received [0xA5, 0x6B] with pend := true, dirty := true } =
      .next { received [0xA5, 0x6B] with pend := true, dirty := true, en := true, rxBuf := none } := rfl

theorem witness_CommandsReadNoRegisterAndRepeatHarmlessly :
    base.cfg = (atPhase .s3).cfg ∧ base.draws = (atPhase .s3).draws ∧
    exec .arm base = .next { base with pend := true } ∧ exec .arm (atPhase .s3) = .next { atPhase .s3 with pend := true } ∧
    exec .arm { base with pend := true } = .next { base with pend := true } ∧
    Instr.arm ≠ .setdly none ∧ Instr.arm ≠ .setsave none ∧
    exec (.setdly none) base = .next { base with dly := Config.freeArg base.draws, draws := base.draws + 1 } :=
  ⟨rfl, rfl, rfl, rfl, rfl, by decide, by decide, rfl⟩

/-- Each of the four ways a packet is malformed. -/
theorem witness_MalformedPacketsChangeNothing :
    (received [0xA5]).rxBuf = some ⟨true, [0xA5]⟩ ∧ Packet.len ⟨true, [0xA5]⟩ < 2 ∧ Packet.ok ⟨false, []⟩ = false ∧
    (received [0, 0x6B]).rxBuf = some ⟨true, [0, 0x6B]⟩ ∧ ([0, 0x6B] : List Byte).head? ≠ some node.familyId ∧
    decode { node with argAbsent := .discard } ⟨true, [0xA5, 103]⟩ = .dropShort := by decide

theorem witness_StepRunsTheDecodedCommand :
    nextTurn (received [0xA5, 0x64]) = .dispatch ∧ (received [0xA5, 0x64]).sph ≠ .boot ∧
    (received [0xA5, 0x64]).rxBuf = some ⟨true, [0xA5, 0x64]⟩ ∧
    decode (received [0xA5, 0x64]).cfg ⟨true, [0xA5, 0x64]⟩ = .command .on := by decide

theorem witness_AnIdleTurnChangesNothing :
    turnEnabled (nextTurn (atTurn .dispatch)) (atTurn .dispatch) = false := by decide

theorem witness_APacketIsTakenOnlyIntoAnEmptyBuffer :
    nextTurn (atTurn (.rx ⟨true, []⟩)) = .rx ⟨true, []⟩ ∧
    Packet.len ⟨true, []⟩ ≤ (atTurn (.rx ⟨true, []⟩)).cfg.maxPayload ∧ (atTurn (.rx ⟨true, []⟩)).rxPend = false ∧
    ({ atTurn (.rx ⟨true, []⟩) with rxBuf := some ⟨true, [1]⟩ } : State).rxPend = true := by decide

theorem witness_HandlersLeaveTheSequencerAlone :
    step (atTurn .sersvc) = .next base ∧ nextTurn (atTurn .sersvc) ≠ .sched ∧ nextTurn (atTurn .sersvc) ≠ .reset :=
  ⟨rfl, by decide, by decide⟩

theorem witness_HandlersCommute :
    ({ received [] with ovfPend := true } : State).rxPend = true ∧
    ({ received [] with ovfPend := true } : State).ovfPend = true ∧
    ({ received [] with ovfPend := true } : State).sph ≠ .boot := by decide

theorem witness_TheSequencerFollowsTheIterationTable : nextTurn (atPhase .s3) = .sched := rfl

theorem witness_S1LatchesTheClock : SchedAt .s1 (atPhase .s1) := schedAt_atPhase _

theorem witness_S2WritesTheDelayOncePerRequest :
    SchedAt .s2 (atPhase .s2) ∧ (atPhase .s2).dirty = false ∧
    SchedAt .s2 { atPhase .s2 with dirty := true } ∧ Memory.wf node.storeInit (atPhase .s2).store = true :=
  ⟨schedAt_atPhase _, rfl, ⟨⟨rfl, rfl⟩, rfl⟩, rfl⟩

theorem witness_S3LatchesTheGate : SchedAt .s3 (atPhase .s3) := schedAt_atPhase _

theorem witness_S3aStartsTheRequestedEpisode :
    SchedAt .s3a (atPhase .s3a) ∧ (atPhase .s3a).pend = false ∧ SchedAt .s3a { atPhase .s3a with pend := true } :=
  ⟨schedAt_atPhase _, rfl, ⟨⟨rfl, rfl⟩, rfl⟩⟩

/-- `NOW` at the deadline, one before it, and no deadline. -/
theorem witness_S3bFiresAtOrPastTheDeadline :
    SchedAt .s3b { atPhase .s3b with deadline := 7, now := 7 } ∧ (7 : Word64) ≠ 0 ∧
    SchedAt .s3b { atPhase .s3b with deadline := 7, now := 6 } ∧ (6 : Word64).toNat < (7 : Word64).toNat ∧
    SchedAt .s3b (atPhase .s3b) ∧ (atPhase .s3b).deadline = 0 :=
  ⟨⟨⟨rfl, rfl⟩, rfl⟩, by decide, ⟨⟨rfl, rfl⟩, rfl⟩, by decide, schedAt_atPhase _, rfl⟩

theorem witness_S4CancelsOnlyTheRequest :
    SchedAt .s4 (atPhase .s4) ∧ (atPhase .s4).cfg.deadlineGated = true ∧
    SchedAt .s4 { atPhase .s4 with cfg := { node with deadlineGated := false } } :=
  ⟨schedAt_atPhase _, rfl, ⟨⟨rfl, rfl⟩, rfl⟩⟩

/-- An episode whose length does not fit in 64 bits, and the largest rate for which every length does. -/
def wideEpisode : State :=
  { atPhase .s3a with pend := true, dly := 1, cfg := { node with tps := 18446744073709551616 } }

theorem witness_DeadlineLengthIsSixtySecondsPerUnit :
    1205669547301277 * 15300 < 2 ^ 64 ∧ StartsEpisode wideEpisode ∧ 2 ^ 64 ≤ delta wideEpisode.cfg wideEpisode.dly ∧
    step wideEpisode = .next (schedStep (afterTurn wideEpisode)) :=
  ⟨by decide, ⟨⟨⟨rfl, rfl⟩, rfl⟩, rfl⟩, by decide, rfl⟩

theorem witness_ZeroDelayGivesAPulse :
    ({ atPhase .s3a with pend := true, now := 1 } : State).sph = .s3a ∧ (1 : Word64) ≠ 0 ∧
    ({ atPhase .s3a with pend := true, now := 1 } : State).dly = 0 := by decide

/-- First part: `NOW = 0, DLY = 0`, and V-SC-5 case b. Second part: one SERSVC step. -/
theorem witness_AComputedDeadlineOfZeroNeverFires :
    ({ atPhase .s3a with pend := true } : State).sph = .s3a ∧ (0 + 60 * (0 : Byte).toNat * 1000) % 2 ^ 64 = 0 ∧
    ((18446744073709491616 : Word64).toNat + 60 * (1 : Byte).toNat * node.tps) % 2 ^ 64 = 0 ∧
    IsRun (trace { atTurn .sersvc with out := true }) 1 ∧ NoReset (trace { atTurn .sersvc with out := true }) 1 ∧
    (trace { atTurn .sersvc with out := true } 0).deadline = 0 ∧
    (trace { atTurn .sersvc with out := true } 0).pend = false ∧
    (∀ i, i < 1 → ¬ Dispatches (.command .off) (trace { atTurn .sersvc with out := true } i) ∧
      ¬ Dispatches (.command .arm) (trace { atTurn .sersvc with out := true } i)) := by
  refine ⟨rfl, by decide, by decide, isRun_trace (by decide), ?_, rfl, rfl, ?_⟩
  · unfold NoReset; decide
  · intro i hi
    obtain rfl : i = 0 := by omega
    constructor <;> rintro ⟨⟨h, _⟩, _⟩ <;> exact absurd h (by decide)

theorem witness_RearmingRestartsTheCountdown :
    SchedAt .s3a { atPhase .s3a with pend := true, deadline := 61000 } ∧ (61000 : Word64) ≠ 0 :=
  ⟨⟨⟨rfl, rfl⟩, rfl⟩, by decide⟩

theorem witness_OnlyOnOrAnEpisodeAssertsTheOutput :
    Inv (atPhase .s1) ∧ step (atPhase .s1) = .next (schedStep (afterTurn (atPhase .s1))) :=
  ⟨inv_of_phase _ (by decide), rfl⟩

theorem witness_TheOutputFollowsThePinTrace :
    nextTurn (atTurn .sersvc) ≠ .reset ∧ step (atTurn .sersvc) = .next base ∧
    nextTurn (atTurn .reset) = .reset ∧ step (atTurn .reset) = .next (resetStep base) :=
  ⟨by decide, rfl, rfl, rfl⟩

/-- A run with two firings: a deadline passed, then an episode of zero length. -/
def twoFirings : State :=
  { atPhase .s3b with
    en := true, pend := true, deadline := 1, now := 1, tick := 2
    turns := [.sched, .sched, .sched, .sched, .sched, .sched] }

theorem witness_TheComparatorNeverFiresTwiceForOneDeadline :
    IsRun (trace twoFirings) 6 ∧ ComparatorFires (trace twoFirings 0) ∧ ComparatorFires (trace twoFirings 5) := by
  refine ⟨isRun_trace (by decide), ⟨⟨⟨?_, ?_⟩, ?_⟩, ?_⟩, ⟨⟨?_, ?_⟩, ?_⟩, ?_⟩ <;> decide

/-- Nine turns of SCHED from S1 with the clock past the deadline. -/
def nineTurns : State :=
  { base with
    en := true, deadline := 1, tick := 2
    turns := [.sched, .sched, .sched, .sched, .sched, .sched, .sched, .sched, .sched] }

theorem witness_AnExpiredDeadlineFiresWithinNineMicroSteps :
    IsRun (trace nineTurns) 9 ∧ NoReset (trace nineTurns) 9 ∧
    (trace nineTurns 0).tick < (trace nineTurns 0).cfg.tpo ∧ combinedCount (trace nineTurns 0) < 2 ^ 64 ∧
    (trace nineTurns 9).fOvfLost = false ∧ (trace nineTurns 9).fClockWrap = false ∧
    (∀ i, i ≤ 9 → (trace nineTurns i).en = true ∧ (trace nineTurns i).pend = false) ∧
    (trace nineTurns 0).deadline ≠ 0 ∧ (trace nineTurns 0).deadline.toNat ≤ combinedCount (trace nineTurns 0) ∧
    9 ≤ stepsOf .sched (trace nineTurns) 9 := by
  refine ⟨isRun_trace (by decide), ?_, by decide, by decide, by decide, by decide, ?_, by decide, by decide, by decide⟩
  · unfold NoReset; decide
  · intro i hi
    interval_cases i <;> decide

theorem witness_ALateDisableDoesNotStopTheIteration :
    ({ atPhase .s3 with en := true, pend := true } : State).sph = .s3 ∧
    exec .disable (schedStep { atPhase .s3 with en := true, pend := true }) =
      .next { atPhase .s3a with pend := true, g := true } ∧
    node.ovrMode = .aliasEnable := ⟨rfl, rfl, rfl⟩

theorem witness_AnEarlyDisableCancelsTheRequest :
    ({ base with pend := true, en := true } : State).sph = .s1 ∧
    exec .disable { base with pend := true, en := true } = .next { base with pend := true } := ⟨rfl, rfl⟩

theorem witness_OnlyTheirWritersChangeGateAndDelay :
    step (received [0xA5, 0x6B]) = .next { base with en := true } ∧ ({ base with en := true } : State).en ≠ (received []).en ∧
    step (received [0xA5, 0x67, 0x2A]) = .next { base with dly := 42 } ∧
    ({ base with dly := 42 } : State).dly ≠ (received []).dly ∧
    step { atPhase .boot with store := [(0, 9)] } = .next { base with dly := 9, store := [(0, 9)] } ∧
    step { atTurn .reset with dly := 9 } = .next (resetStep { base with dly := 9 }) ∧
    (resetStep { base with dly := 9 }).dly ≠ 9 := ⟨rfl, by decide, rfl, by decide, rfl, rfl, by decide⟩

theorem witness_OnlyItsWritersChangeTheRequest :
    step (received [0xA5, 0x66]) = .next { base with pend := true } ∧ (received [0xA5, 0x66]).pend = false ∧
    step { atPhase .s4 with pend := true } = .next base := ⟨rfl, rfl, rfl⟩

theorem witness_OnlyTheSchedulerWritesTheDeadline :
    step { atPhase .s3b with deadline := 1, now := 1 } = .next { base with now := 1, pinLog := [.pin false] } ∧
    (base.deadline ≠ (1 : Word64)) := ⟨rfl, by decide⟩

theorem witness_APersistRequestIsKeptUntilItIsWritten :
    step (received [0xA5, 0x68]) = .next { base with dirty := true } ∧ (received [0xA5, 0x68]).dirty = false ∧
    step { atPhase .s2 with dirty := true, dly := 9 } =
      .next { atPhase .s3 with dly := 9, turns := [], store := [(0, 9)], storeLog := [.store 0 9] } := ⟨rfl, rfl, rfl⟩

theorem witness_TheStoreIsWrittenOnlyByTheDirtyLatch :
    SchedAt .s2 { atPhase .s2 with dirty := true } ∧ Memory.wf node.storeInit (atPhase .s2).store = true ∧
    ¬ (SchedAt .s2 (atPhase .s1) ∧ (atPhase .s1).dirty = true) :=
  ⟨⟨⟨rfl, rfl⟩, rfl⟩, rfl, fun h => absurd h.2 (by decide)⟩

/-- S2 writes 42, a reset, and the BOOT after it. -/
def writeResetBoot : State := { atPhase .s2 with dirty := true, dly := 42, turns := [.sched, .reset, .sched] }

theorem witness_AWrittenDelaySurvivesReset :
    IsRun (trace writeResetBoot) 3 ∧ SchedAt .s2 (trace writeResetBoot 0) ∧ (trace writeResetBoot 0).dirty = true ∧
    Memory.wf (trace writeResetBoot 0).cfg.storeInit (trace writeResetBoot 0).store = true ∧
    (∀ i, 0 < i → i < 2 → ¬ (SchedAt .s2 (trace writeResetBoot i) ∧ (trace writeResetBoot i).dirty = true)) ∧
    SchedAt .boot (trace writeResetBoot 2) := by
  refine ⟨isRun_trace (by decide), ⟨⟨rfl, rfl⟩, rfl⟩, rfl, rfl, ?_, ⟨⟨rfl, rfl⟩, rfl⟩⟩
  intro i h0 h2 h
  obtain rfl : i = 1 := by omega
  exact absurd h.2 (by decide)

/-- Nothing written yet, and a store that holds its last write. -/
theorem witness_BootLoadsTheLastStoredByte :
    Inv (atPhase .boot) ∧ SchedAt .boot (atPhase .boot) ∧ (atPhase .boot).storeLog = [] ∧
    Inv { atPhase .boot with store := [(0, 9)], storeLog := [.store 0 9] } :=
  ⟨inv_of_phase _ (by decide), schedAt_atPhase _, rfl,
    ⟨by decide, by decide, by decide, rfl, rfl, by decide, fun _ => rfl, by decide, rfl⟩⟩

/-- One below the wrap, and at it. -/
theorem witness_ATickCountsOrWraps :
    TakesTurn .ticker { atTurn .ticker with tick := 254 } ∧ 254 + 1 < node.tpo ∧
    TakesTurn .ticker { atTurn .ticker with tick := 255 } ∧ ¬ 255 + 1 < node.tpo :=
  ⟨⟨rfl, rfl⟩, by decide, ⟨rfl, rfl⟩, by decide⟩

theorem witness_ALostOverflowIsAFaultOrExcluded :
    nextTurn { atTurn .ticker with tick := 255, ovfPend := true } = .ticker ∧ 255 + 1 = node.tpo ∧
    node.ovfLossMode = .fault ∧ Config.ovfLossMode { node with ovfLossMode := .excluded } = .excluded := by decide

theorem witness_TheOverflowHandlerCountsTheOverflow :
    TakesTurn .ovfsvc { atTurn .ovfsvc with ovfPend := true } ∧ (atTurn .ovfsvc).ovf.toNat + 1 < 2 ^ 64 :=
  ⟨⟨rfl, rfl⟩, by decide⟩

theorem witness_TheSnapshotCountsAPendingOverflow :
    ({ base with ovfPend := true } : State).ovfPend = true ∧
    step { atPhase .s1 with tick := 3 } = .next { atPhase .s2 with tick := 3, now := 3, turns := [] } ∧
    (3 : Word64) ≠ (atPhase .s1).now := ⟨rfl, rfl, by decide⟩

/-- A run of one tick over a wrap, and the overflow handler's step. -/
theorem witness_TheClockAdvancesByOnePerTick :
    IsRun (trace { atTurn .ticker with tick := 255 }) 1 ∧ NoReset (trace { atTurn .ticker with tick := 255 }) 1 ∧
    combinedCount (trace { atTurn .ticker with tick := 255 } 0) < 2 ^ 64 ∧
    (trace { atTurn .ticker with tick := 255 } 1).fOvfLost = false ∧
    (trace { atTurn .ticker with tick := 255 } 1).fClockWrap = false ∧
    TakesTurn .ticker { atTurn .ticker with tick := 255 } ∧ overflowLost { atTurn .ticker with tick := 255 } = false ∧
    TakesTurn .ovfsvc { atTurn .ovfsvc with ovfPend := true } ∧
    step { atTurn .ovfsvc with ovfPend := true } = .next { base with ovf := 1 } ∧
    ¬ TakesTurn .ticker (atTurn .sersvc) ∧ ¬ TakesTurn .ovfsvc (atTurn .sersvc) := by
  refine ⟨isRun_trace (by decide), ?_, by decide, by decide, by decide, ⟨rfl, rfl⟩, by decide, ⟨rfl, rfl⟩, rfl, ?_, ?_⟩
  · unfold NoReset; decide
  · rintro ⟨h, _⟩; exact absurd h (by decide)
  · rintro ⟨h, _⟩; exact absurd h (by decide)

theorem witness_TheClockFitsUntilItsFault :
    step (atTurn .sersvc) = .next base ∧ (atTurn .sersvc).tick < node.tpo ∧ node.tpo ≤ 2 ^ 64 ∧
    combinedCount (atTurn .sersvc) < 2 ^ 64 := ⟨rfl, by decide, by decide, by decide⟩

theorem witness_FaultBitsHaveExactlyTheirCauses : step (atTurn .sersvc) = .next base := rfl

/-- A clock 255 ticks past 2^64 with its overflow still pending: where V-CK-5 stands after 255 more ticks. -/
def pastExhaustion : State :=
  { atTurn .ticker with ovf := 72057594037927935, ovfPend := true, tick := 255, fClockWrap := true }

/-- A tick that sets each clock fault alone (V-CK-4, V-CK-5), one that raises both, and S3A with a wrapped deadline. -/
theorem witness_OnlyATickRaisesTwoFaults :
    after { atTurn .ticker with ovf := 4, ovfPend := true, tick := 255 } (fun t => t.fOvfLost && !t.fClockWrap) ∧
    after { atTurn .ticker with ovf := 72057594037927935, tick := 255 } (fun t => t.fClockWrap && !t.fOvfLost) ∧
    TakesTurn .ticker pastExhaustion ∧ ¬ pastExhaustion.tick + 1 < pastExhaustion.cfg.tpo ∧
    pastExhaustion.ovfPend = true ∧ 2 ^ 64 ≤ (pastExhaustion.ovf.toNat + 1) * pastExhaustion.cfg.tpo ∧
    after { atPhase .s3a with pend := true, dly := 1, now := 18446744073709550616 } (fun t => t.fDeadlineWrap) :=
  ⟨by decide, by decide, ⟨rfl, rfl⟩, by decide, rfl, by decide, by decide⟩

theorem witness_ResetSetsEveryRegister : nextTurn (atTurn .reset) = .reset ∧ 1 ≤ (atTurn .reset).cfg.tpo ∧
    ({ atTurn .reset with cfg := { node with ovrMode := .separate } } : State).cfg.ovrMode = .separate := by decide

theorem witness_EveryStepKeepsTheInvariant :
    Inv (atPhase .s2) ∧ step (atPhase .s2) = .next (schedStep (afterTurn (atPhase .s2))) :=
  ⟨inv_of_phase _ (by decide), rfl⟩

/-- The turns of a fair schedule: DISPATCH first, then TICKER, OVFSVC and SCHED in turn for ever. -/
def fairTurns : Nat → Turn
  | 0 => .dispatch
  | n + 1 => if n % 3 = 0 then .ticker else if n % 3 = 1 then .ovfsvc else .sched

/-- The state after a turn of TICKER, OVFSVC or SCHED. -/
def advance (t : Turn) (s : State) : State :=
  if turnEnabled t s then
    (if t = .ticker then tickerStep s else if t = .ovfsvc then ovfsvcStep s else schedStep s)
  else s

/-- The run of `fairTurns` from a state with an ARM packet in the buffer. -/
def fairRun : Nat → State
  | 0 => { base with rxBuf := some ⟨true, [0xA5, 0x66]⟩ }
  | 1 => { base with pend := true }
  | n + 2 => advance (fairTurns (n + 1)) (fairRun (n + 1))

theorem fairTurns_cases (n : Nat) :
    fairTurns (n + 1) = .ticker ∨ fairTurns (n + 1) = .ovfsvc ∨ fairTurns (n + 1) = .sched := by
  by_cases h0 : n % 3 = 0
  · simp [fairTurns, h0]
  · by_cases h1 : n % 3 = 1 <;> simp [fairTurns, h0, h1]

theorem runTurn_advance {t : Turn} (h : t = .ticker ∨ t = .ovfsvc ∨ t = .sched) (s : State) :
    runTurn t s = .next (advance t s) := by
  rcases h with rfl | rfl | rfl <;> unfold runTurn advance <;> split <;> rfl

theorem fairRun_isInterleaving : IsInterleaving fairTurns fairRun
  | 0 => rfl
  | n + 1 => runTurn_advance (fairTurns_cases n) _

theorem advance_rxBuf (t : Turn) (s : State) : (advance t s).rxBuf = s.rxBuf := by
  unfold advance
  split
  · split
    · rw [tickerStep_eq]
    · split
      · rfl
      · cases hs : s.sph <;>
          simp [schedStep, hs, bootStep, schedS1, schedS2, schedS3, schedS3a, schedS3b, schedS4, dirtyLatch_eq,
            armLatch_eq, comparator_eq] <;> split <;> simp
  · rfl

theorem fairRun_rxBuf : ∀ n, (fairRun (n + 1)).rxBuf = none
  | 0 => rfl
  | n + 1 => (advance_rxBuf _ _).trans (fairRun_rxBuf n)

theorem fairTurns_often (k : Nat) (hk : k < 3) (n : Nat) : ∃ m, n ≤ m ∧ 0 < m ∧ (m - 1) % 3 = k := by
  refine ⟨3 * n + k + 1, by omega, by omega, by omega⟩

theorem fairRun_fair : WeaklyFair fairTurns fairRun := by
  have taken : ∀ (k : Nat) (t : Turn), k < 3 → (∀ m, m % 3 = k → fairTurns (m + 1) = t) → FairFor t fairTurns fairRun := by
    intro k t hk ht n
    obtain ⟨m, hm, hpos, hmk⟩ := fairTurns_often k hk n
    refine ⟨m, hm, ?_⟩
    have hturn : fairTurns m = t := by
      obtain ⟨j, rfl⟩ : ∃ j, m = j + 1 := ⟨m - 1, by omega⟩
      exact ht j (by simpa using hmk)
    cases he : turnEnabled t (fairRun m)
    · exact .inr rfl
    · exact .inl ⟨hturn, rfl⟩
  refine ⟨taken 2 _ (by decide) ?_, taken 0 _ (by decide) ?_, ?_, taken 1 _ (by decide) ?_⟩
  · intro m h; simp [fairTurns, h]
  · intro m h; simp [fairTurns, h]
  · intro n
    refine ⟨n + 1, by omega, .inr ?_⟩
    simp [turnEnabled, State.rxPend, fairRun_rxBuf]
  · intro m h; simp [fairTurns, h]

theorem witness_EveryBufferedPacketIsDispatched :
    IsInterleaving fairTurns fairRun ∧ WeaklyFair fairTurns fairRun ∧ (∀ i, fairTurns i ≠ .reset) ∧
    (fairRun 0).rxPend = true := by
  refine ⟨fairRun_isInterleaving, fairRun_fair, ?_, rfl⟩
  intro i
  cases i with
  | zero => decide
  | succ n => rcases fairTurns_cases n with h | h | h <;> rw [h] <;> decide

/-- SCHED alone, from a state with both requests. -/
def schedRun : Nat → State
  | 0 => { base with dirty := true, pend := true }
  | n + 1 => schedStep (schedRun n)

theorem witness_EveryRequestIsActedOn :
    IsInterleaving (fun _ => .sched) schedRun ∧ FairFor .sched (fun _ => .sched) schedRun ∧
    (schedRun 0).dirty = true ∧ (schedRun 0).pend = true :=
  ⟨fun _ => rfl, fun n => ⟨n, le_refl n, .inl ⟨rfl, rfl⟩⟩, rfl, rfl⟩

theorem witness_TheSerialHandlerChangesNoRegister :
    TakesTurn .sersvc (atTurn .sersvc) ∧ (atTurn .sersvc).sph ≠ .boot := ⟨⟨rfl, rfl⟩, by decide⟩

end Sys2Proof.Tests
end

section
/-! PROOFS. The decode gate and the opcode map (30_encoding.md R60 to R65): which test answers for which packet, and
which bytes of a packet the answer depends on. -/

namespace Sys2Proof

/-! ### The opcode map, one equation for each opcode (R61) -/

theorem decodeOpcode_on (c : Config) (arg : Option Byte) : decodeOpcode c 100 arg = .command .on := rfl

theorem decodeOpcode_off (c : Config) (arg : Option Byte) : decodeOpcode c 101 arg = .command .off := rfl

theorem decodeOpcode_arm (c : Config) (arg : Option Byte) : decodeOpcode c 102 arg = .command .arm := rfl

theorem decodeOpcode_setdly (c : Config) (arg : Option Byte) :
    decodeOpcode c 103 arg = decodeArg c .setdly arg := rfl

theorem decodeOpcode_save (c : Config) (arg : Option Byte) : decodeOpcode c 104 arg = .command .save := rfl

theorem decodeOpcode_setsave (c : Config) (arg : Option Byte) :
    decodeOpcode c 105 arg = decodeArg c .setsave arg := rfl

theorem decodeOpcode_disable (c : Config) (arg : Option Byte) : decodeOpcode c 106 arg = .command .disable := rfl

theorem decodeOpcode_enable (c : Config) (arg : Option Byte) : decodeOpcode c 107 arg = .command .enable := rfl

/-- Every opcode the map does not list is unknown (R65). -/
theorem decodeOpcode_unknown {opc : Byte} (h : opc.toNat < 100 ∨ 107 < opc.toNat) (c : Config) (arg : Option Byte) :
    decodeOpcode c opc arg = .unknown := by
  have unlisted : ∀ k : Byte, 100 ≤ k.toNat → k.toNat ≤ 107 → opc ≠ k := by
    rintro k hlow hhigh rfl
    omega
  simp [decodeOpcode, unlisted]

/-- The argument is looked at for opcodes 103 and 105 alone (R64). -/
theorem decodeOpcode_arg_irrel {opc : Byte} (h103 : opc ≠ 103) (h105 : opc ≠ 105) (c : Config)
    (arg arg' : Option Byte) : decodeOpcode c opc arg = decodeOpcode c opc arg' := by
  simp only [decodeOpcode, if_neg h103, if_neg h105]

/-! ### The missing argument (R63) -/

theorem decodeArg_absent_draw {c : Config} (h : c.argAbsent = .draw) (mk : Option Byte → Instr) :
    decodeArg c mk none = .command (mk none) := by
  rw [decodeArg_absent, if_pos h]

theorem decodeArg_absent_discard {c : Config} (h : c.argAbsent = .discard) (mk : Option Byte → Instr) :
    decodeArg c mk none = .dropShort := by
  rw [decodeArg_absent, if_neg (by simp [h])]

/-! ### The tests of the gate (R60) -/

theorem decode_len_lt_two (c : Config) {b : List Byte} (h : Packet.len ⟨true, b⟩ < 2) :
    decode c ⟨true, b⟩ = .dropShort := by
  match b, h with
  | [], _ => exact decode_nil c
  | [a], _ => exact decode_single c a
  | _ :: _ :: _, h => simp [Packet.len] at h

theorem decode_addr_ne {c : Config} {adr : Byte} (h : adr ≠ c.familyId) (opc : Byte) (rest : List Byte) :
    decode c ⟨true, adr :: opc :: rest⟩ = .dropAddr := by
  rw [decode_bytes, if_pos h]

theorem decode_familyId (c : Config) (opc : Byte) (rest : List Byte) :
    decode c ⟨true, c.familyId :: opc :: rest⟩ = decodeOpcode c opc rest.head? := by
  rw [decode_bytes, if_neg (not_not.mpr rfl)]

/-- Of the bytes after the opcode, decoding looks at the first alone (R64). -/
theorem decode_congr_head? {rest rest' : List Byte} (h : rest.head? = rest'.head?) (c : Config) (adr opc : Byte) :
    decode c ⟨true, adr :: opc :: rest⟩ = decode c ⟨true, adr :: opc :: rest'⟩ := by
  rw [decode_bytes, decode_bytes, h]

/-- Settles O3: each clause is one test of the gate; past the address test it is one equation of the opcode map. -/
theorem decodeGateTestsInOrder : Obligations.DecodeGateTestsInOrder := by
  rintro c ⟨ok, b⟩
  refine ⟨?failed, ?short, ?bytes⟩
  case failed =>
    rintro rfl
    exact decode_not_ok c b
  case short =>
    rintro rfl hlen
    exact decode_len_lt_two c hlen
  case bytes =>
    rintro adr opc rest rfl rfl
    refine ⟨fun hadr => decode_addr_ne hadr opc rest, ?_⟩
    rintro rfl
    rw [decode_familyId]
    refine ⟨?on, ?off, ?arm, ?setdly, ?setdlyDraw, ?setdlyDiscard, ?save, ?setsave, ?setsaveDraw, ?setsaveDiscard,
      ?disable, ?enable, fun hopc => decodeOpcode_unknown hopc c _⟩
    case on => rintro rfl; exact decodeOpcode_on c _
    case off => rintro rfl; exact decodeOpcode_off c _
    case arm => rintro rfl; exact decodeOpcode_arm c _
    case setdly => rintro v more rfl rfl; exact decodeOpcode_setdly c (some v)
    case setdlyDraw =>
      rintro rfl rfl hdraw
      exact (decodeOpcode_setdly c none).trans (decodeArg_absent_draw hdraw .setdly)
    case setdlyDiscard =>
      rintro rfl rfl hdiscard
      exact (decodeOpcode_setdly c none).trans (decodeArg_absent_discard hdiscard .setdly)
    case save => rintro rfl; exact decodeOpcode_save c _
    case setsave => rintro v more rfl rfl; exact decodeOpcode_setsave c (some v)
    case setsaveDraw =>
      rintro rfl rfl hdraw
      exact (decodeOpcode_setsave c none).trans (decodeArg_absent_draw hdraw .setsave)
    case setsaveDiscard =>
      rintro rfl rfl hdiscard
      exact (decodeOpcode_setsave c none).trans (decodeArg_absent_discard hdiscard .setsave)
    case disable => rintro rfl; exact decodeOpcode_disable c _
    case enable => rintro rfl; exact decodeOpcode_enable c _

/-- Settles O6: decoding looks at the bytes after the opcode through the first of them, and at that one for opcodes 103
and 105 alone. -/
theorem bytesBeyondTheArgumentAreIgnored : Obligations.BytesBeyondTheArgumentAreIgnored := by
  intro c adr opc
  refine ⟨fun v more => decode_congr_head? rfl c adr opc, fun h103 h105 more => ?_⟩
  rw [decode_bytes, decode_bytes, decodeOpcode_arg_irrel h103 h105 c more.head? none, List.head?_nil]

end Sys2Proof
end

section
/-! PROOFS. The dispatch step (40_dispatch.md R86 to R89): a discard class is the flush alone, and every class completes,
flushes and raises no fault. -/

namespace Sys2Proof.Machine

open Sys2Proof

/-! ### Commands complete and raise no fault (R89) -/

theorem exec_completes (i : Instr) (s : State) : ∃ t, exec i s = .next t := by
  cases i <;> exact ⟨_, rfl⟩

/-- No command touches a fault bit: of what the eight meanings write, none is one. -/
theorem exec_faults {i : Instr} {s t : State} (h : exec i s = .next t) :
    t.fOvfLost = s.fOvfLost ∧ t.fClockWrap = s.fClockWrap ∧ t.fDeadlineWrap = s.fDeadlineWrap := by
  obtain ⟨-, rfl⟩ | ⟨-, rfl⟩ | ⟨-, rfl⟩ | ⟨arg, -, rfl⟩ | ⟨-, rfl⟩ | ⟨arg, -, rfl⟩ | ⟨-, rfl⟩ | ⟨-, rfl⟩ :=
    exec_cases h <;> simp

/-! ### The dispatch step, class by class (R74, R87) -/

theorem dispatchStep_of_no_packet {s : State} (h : s.rxBuf = none) : dispatchStep s = .next s := by
  simp [dispatchStep, h]

/-- A discard class, whichever of the four, is `skip` and the flush (R75, R76, R77, R86). -/
theorem dispatchStep_of_discarded {s : State} {p : Packet} (hp : s.rxBuf = some p)
    (hd : ∀ i, decode s.cfg p ≠ .command i) : dispatchStep s = .next (flush s) := by
  rw [dispatchStep_eq hp]
  cases hc : decode s.cfg p with
  | command i => exact absurd hc (hd i)
  | dropRxFail | dropShort | dropAddr | unknown => rfl

theorem dispatchStep_of_command {s t : State} {p : Packet} {i : Instr} (hp : s.rxBuf = some p)
    (hd : decode s.cfg p = .command i) (he : exec i s = .next t) : dispatchStep s = .next (flush t) := by
  rw [dispatchStep_eq hp, hd, performClass, he, mapNext]

/-! ### What every dispatch step does (R87, R89) -/

theorem dispatchStep_completes (s : State) : ∃ t, dispatchStep s = .next t := by
  cases hp : s.rxBuf with
  | none => exact ⟨s, dispatchStep_of_no_packet hp⟩
  | some p =>
    by_cases hd : ∃ i, decode s.cfg p = .command i
    · obtain ⟨i, hi⟩ := hd
      obtain ⟨t, he⟩ := exec_completes i s
      exact ⟨flush t, dispatchStep_of_command hp hi he⟩
    · exact ⟨flush s, dispatchStep_of_discarded hp (not_exists.mp hd)⟩

theorem dispatchStep_rxBuf {s t : State} (h : dispatchStep s = .next t) : t.rxBuf = none := by
  obtain ⟨hp, rfl⟩ | ⟨p, -, -, rfl⟩ | ⟨p, i, u, -, -, -, rfl⟩ := dispatchStep_cases h
  · exact hp
  · exact flush_rxBuf s
  · exact flush_rxBuf u

theorem dispatchStep_faults {s t : State} (h : dispatchStep s = .next t) :
    t.fOvfLost = s.fOvfLost ∧ t.fClockWrap = s.fClockWrap ∧ t.fDeadlineWrap = s.fDeadlineWrap := by
  obtain ⟨-, rfl⟩ | ⟨p, -, -, rfl⟩ | ⟨p, i, u, -, -, he, rfl⟩ := dispatchStep_cases h
  · exact ⟨rfl, rfl, rfl⟩
  · exact ⟨flush_fOvfLost s, flush_fClockWrap s, flush_fDeadlineWrap s⟩
  · simpa using exec_faults he

/-! ### The empty buffer (10_state.md R27, R73) -/

theorem rxPend_eq_false_of_empty {s : State} (h : s.rxBuf = none) : s.rxPend = false := by
  simp [State.rxPend, h]

/-- An empty buffer takes every packet the node can receive. -/
theorem turnEnabled_rx_of_empty {s : State} (h : s.rxBuf = none) {q : Packet} (hq : q.len ≤ s.cfg.maxPayload) :
    turnEnabled (.rx q) s = true := by
  simp [turnEnabled, rxEnabled, rxPend_eq_false_of_empty h, hq]

/-! ### The obligations -/

/-- Settles O4: past the address test the opcode map answers `unknown`, a discard class. -/
theorem unknownOpcodesAreDiscarded : Obligations.UnknownOpcodesAreDiscarded := by
  intro s opc rest hbuf hopc
  have unknown : decode s.cfg ⟨true, s.cfg.familyId :: opc :: rest⟩ = .unknown := by
    rw [decode_familyId]
    exact decodeOpcode_unknown (by omega) s.cfg _
  exact ⟨unknown, dispatchStep_of_discarded hbuf (by simp [unknown])⟩

/-- Settles O11: the step completes, and all else is what it does wherever it completes. -/
theorem everyDispatchCompletesAndFlushes : Obligations.EveryDispatchCompletesAndFlushes := by
  intro s
  obtain ⟨t, ht⟩ := dispatchStep_completes s
  have empty : t.rxBuf = none := dispatchStep_rxBuf ht
  exact ⟨t, ht, empty, rxPend_eq_false_of_empty empty, fun q hq => turnEnabled_rx_of_empty empty hq,
    dispatchStep_faults ht⟩

end Sys2Proof.Machine
end

section
/-! PROOFS. The countdown of the scheduler (41_scheduler.md R99, R100): how long it is, and what the step that starts it
does where its length does not fit in 64 bits. -/

namespace Sys2Proof.Machine

open Sys2Proof

/-! ### The length of a countdown (R100, 42_cycle_clock.md R119) -/

theorem delta_eq_secondsToCycles (c : Config) (d : Byte) : delta c d = secondsToCycles c (60 * d.toNat) := rfl

theorem delta_eq (c : Config) (d : Byte) : delta c d = 60 * d.toNat * c.tps := rfl

/-- The longest countdown is that of `DLY = 255`: 15300 seconds. -/
theorem delta_le (c : Config) (d : Byte) : delta c d ≤ c.tps * 15300 := by
  have seconds : 60 * d.toNat ≤ 15300 := by
    have := d.isLt
    omega
  calc delta c d = 60 * d.toNat * c.tps := delta_eq c d
    _ ≤ 15300 * c.tps := Nat.mul_le_mul_right c.tps seconds
    _ = c.tps * 15300 := Nat.mul_comm _ _

/-! ### The deadline sum (R99) -/

theorem delta_le_deadlineSum (s : State) : delta s.cfg s.dly ≤ deadlineSum s := Nat.le_add_left _ _

@[simp] theorem deadlineSum_afterTurn (s : State) : deadlineSum (afterTurn s) = deadlineSum s := by
  simp [deadlineSum]

@[simp] theorem deadlineWraps_afterTurn (s : State) : deadlineWraps (afterTurn s) = deadlineWraps s := by
  simp [deadlineWraps]

theorem deadlineWraps_iff (s : State) : deadlineWraps s = true ↔ 2 ^ 64 ≤ deadlineSum s := decide_eq_true_iff

/-! ### The step that starts an episode (R94, R99) -/

theorem step_of_schedAt {ph : Phase} {s : State} (h : SchedAt ph s) : step s = .next (schedStep (afterTurn s)) := by
  obtain ⟨⟨turn, enabled⟩, -⟩ := h
  exact step_of_enabled turn enabled

theorem schedStep_of_s3a {s : State} (h : s.sph = .s3a) : schedStep s = goTo .s3b (armLatch s) := by
  rw [schedStep, h]
  rfl

/-- The arm latch raises `F_DEADLINE_WRAP`, where it takes a request, exactly on a sum past 64 bits; the bit is sticky. -/
theorem armLatch_fDeadlineWrap {s : State} (h : s.pend = true) :
    (armLatch s).fDeadlineWrap = (s.fDeadlineWrap || deadlineWraps s) := by
  rw [armLatch_eq, if_pos h]

theorem step_of_startsEpisode {s : State} (h : StartsEpisode s) :
    step s = .next (goTo .s3b (armLatch (afterTurn s))) := by
  obtain ⟨sched, -⟩ := h
  rw [step_of_schedAt sched, schedStep_of_s3a ((afterTurn_sph s).trans sched.2)]

theorem fDeadlineWrap_of_startsEpisode {s t : State} (h : StartsEpisode s) (hstep : step s = .next t) :
    t.fDeadlineWrap = (s.fDeadlineWrap || deadlineWraps s) := by
  rw [step_of_startsEpisode h, Host.Outcome.next.injEq] at hstep
  have request : (afterTurn s).pend = true := (afterTurn_pend s).trans h.2
  rw [← hstep, goTo_fDeadlineWrap, armLatch_fDeadlineWrap request, afterTurn_fDeadlineWrap, deadlineWraps_afterTurn]

/-! ### The obligation -/

/-- Settles O29: no length exceeds that of `DLY = 255`, and a length past 64 bits takes the deadline sum past them. -/
theorem deadlineLengthIsSixtySecondsPerUnit : Obligations.DeadlineLengthIsSixtySecondsPerUnit := by
  refine ⟨fun c d => ⟨delta_eq c d, delta_eq_secondsToCycles c d⟩, fun c d fits => (delta_le c d).trans_lt fits, ?_⟩
  intro s t starts long hstep
  have wraps : 2 ^ 64 ≤ deadlineSum s := long.trans (delta_le_deadlineSum s)
  refine ⟨wraps, ?_⟩
  rw [fDeadlineWrap_of_startsEpisode starts hstep, (deadlineWraps_iff s).mpr wraps, Bool.or_true]

end Sys2Proof.Machine
end

section
/-! PROOFS. The cycle clock (42_cycle_clock.md R113 to R118): what a tick does, where it loses an overflow, and the
snapshot of the combined count, which S1 alone takes. -/

namespace Sys2Proof.Machine

open Sys2Proof

/-! ### The snapshot (R118) -/

theorem toNat_clockRead (s : State) :
    (clockRead s).toNat = ((s.ovf.toNat + s.ovfPend.toNat) * s.cfg.tpo + s.tick) % 2 ^ 64 :=
  BitVec.toNat_ofNat _ _

/-- The snapshot in 64-bit arithmetic, where the wrap of `OVF` costs nothing. -/
theorem clockRead_eq (s : State) :
    clockRead s = (s.ovf + BitVec.ofNat 64 s.ovfPend.toNat) * BitVec.ofNat 64 s.cfg.tpo + BitVec.ofNat 64 s.tick := by
  simp [clockRead, combinedCount, BitVec.ofNat_add, BitVec.ofNat_mul]

@[simp] theorem clockRead_afterTurn (s : State) : clockRead (afterTurn s) = clockRead s := by
  simp [clockRead]

/-- The overflow that the handler counts is the pending one that the snapshot counted before (R118). -/
theorem clockRead_ovfsvcStep {s : State} (h : s.ovfPend = true) : clockRead (ovfsvcStep s) = clockRead s := by
  simp [clockRead_eq, ovfsvcStep_eq, h]

/-! ### Who writes `NOW` (10_state.md R25) -/

@[simp] theorem tickerStep_now (s : State) : (tickerStep s).now = s.now := by
  rw [tickerStep_eq]

@[simp] theorem ovfsvcStep_now (s : State) : (ovfsvcStep s).now = s.now := rfl

theorem exec_now {i : Instr} {s t : State} (h : exec i s = .next t) : t.now = s.now := by
  obtain ⟨-, rfl⟩ | ⟨-, rfl⟩ | ⟨-, rfl⟩ | ⟨arg, -, rfl⟩ | ⟨-, rfl⟩ | ⟨arg, -, rfl⟩ | ⟨-, rfl⟩ | ⟨-, rfl⟩ :=
    exec_cases h <;> simp

theorem dispatchStep_now {s t : State} (h : dispatchStep s = .next t) : t.now = s.now := by
  obtain ⟨-, rfl⟩ | ⟨p, -, -, rfl⟩ | ⟨p, i, u, -, -, he, rfl⟩ := dispatchStep_cases h
  · rfl
  · exact flush_now s
  · exact (flush_now u).trans (exec_now he)

@[simp] theorem dirtyLatch_now (s : State) : (dirtyLatch s).now = s.now := by
  rw [dirtyLatch_eq]
  split <;> simp

@[simp] theorem armLatch_now (s : State) : (armLatch s).now = s.now := by
  rw [armLatch_eq]
  split <;> rfl

@[simp] theorem comparator_now (s : State) : (comparator s).now = s.now := by
  rw [comparator_eq]
  split <;> rfl

/-- Of the scheduler's micro-steps S1 alone writes `NOW`, and what it writes is the snapshot (41_scheduler.md R96). -/
theorem schedStep_now (s : State) : (schedStep s).now = if s.sph = .s1 then clockRead s else s.now := by
  cases h : s.sph with
  | boot => simp [schedStep, h, bootStep]
  | s1 => simp [schedStep, h, schedS1]
  | s2 => simp [schedStep, h, schedS2]
  | s3 => simp [schedStep, h, schedS3]
  | s3a => simp [schedStep, h, schedS3a]
  | s3b => simp [schedStep, h, schedS3b]
  | s4 => simp [schedStep, h, schedS4]

/-- Everything a step can do to `NOW`: keep it, latch the snapshot in S1, or draw it anew at a reset. -/
theorem step_now {s t : State} (h : step s = .next t) :
    t.now = s.now ∨ (SchedAt .s1 s ∧ t.now = clockRead s) ∨ nextTurn s = .reset := by
  obtain ⟨-, rfl⟩ | ⟨enabled, ⟨-, rfl⟩ | ⟨-, rfl⟩ | ⟨-, hd⟩ | ⟨-, rfl⟩ | ⟨turn, rfl⟩ | ⟨p, -, rfl⟩ | ⟨turn, -⟩⟩ :=
    step_cases h
  · exact .inl (afterTurn_now s)
  · exact .inl ((tickerStep_now _).trans (afterTurn_now s))
  · exact .inl ((ovfsvcStep_now _).trans (afterTurn_now s))
  · exact .inl ((dispatchStep_now hd).trans (afterTurn_now s))
  · exact .inl (afterTurn_now s)
  · rw [schedStep_now, afterTurn_sph, clockRead_afterTurn, afterTurn_now]
    by_cases hs : s.sph = .s1
    · exact .inr (.inl ⟨⟨⟨turn, turn ▸ enabled⟩, hs⟩, if_pos hs⟩)
    · exact .inl (if_neg hs)
  · exact .inl (afterTurn_now s)
  · exact .inr (.inr turn)

/-! ### A tick (R113, R114) -/

theorem tickWraps_iff (s : State) : tickWraps s = true ↔ ¬ s.tick + 1 < s.cfg.tpo := by
  simp [tickWraps]

theorem tickWraps_eq_false_iff (s : State) : tickWraps s = false ↔ s.tick + 1 < s.cfg.tpo := by
  simp [tickWraps]

theorem tickerStep_of_counts {s : State} (h : s.tick + 1 < s.cfg.tpo) :
    tickerStep s =
      { s with
        tick := s.tick + 1
        fClockWrap := s.fClockWrap ||
          decide (2 ^ 64 ≤ (s.ovf.toNat + s.ovfPend.toNat) * s.cfg.tpo + (s.tick + 1)) } := by
  have counts : tickWraps s = false := (tickWraps_eq_false_iff s).mpr h
  simp [tickerStep_eq, clockExhausted, combinedCount_countTick, overflowLost, counts]

theorem tickerStep_of_wraps {s : State} (h : ¬ s.tick + 1 < s.cfg.tpo) :
    tickerStep s =
      { s with
        tick := 0
        ovfPend := true
        fOvfLost := s.fOvfLost || s.ovfPend
        fClockWrap := s.fClockWrap || decide (2 ^ 64 ≤ (s.ovf.toNat + 1) * s.cfg.tpo) } := by
  have wraps : tickWraps s = true := (tickWraps_iff s).mpr h
  simp [tickerStep_eq, clockExhausted, combinedCount_countTick, overflowLost, wraps]

theorem step_of_ticker {s : State} (h : TakesTurn .ticker s) : step s = .next (tickerStep (afterTurn s)) := by
  obtain ⟨turn, enabled⟩ := h
  exact step_of_enabled turn enabled

/-! ### A wrap on a pending overflow (R115) -/

theorem overflowLost_of_last_tick {s : State} (hw : s.tick + 1 = s.cfg.tpo) (hp : s.ovfPend = true) :
    overflowLost s = true := by
  have wraps : tickWraps s = true := (tickWraps_iff s).mpr (by omega)
  simp [overflowLost, wraps, hp]

theorem turnEnabled_ticker_of_fault {s : State} (h : s.cfg.ovfLossMode = .fault) : turnEnabled .ticker s = true := by
  simp [turnEnabled, tickerEnabled, h]

theorem turnEnabled_ticker_of_excluded {s : State} (h : s.cfg.ovfLossMode = .excluded) :
    turnEnabled .ticker s = !overflowLost s := by
  simp [turnEnabled, tickerEnabled, h]

/-- The lost overflow takes `TPO` off the count, of which the tick itself gives 1 back. -/
theorem combinedCount_tickerStep_of_lost {s : State} (hw : s.tick + 1 = s.cfg.tpo) (hp : s.ovfPend = true) :
    combinedCount (tickerStep s) + (s.cfg.tpo - 1) = combinedCount s := by
  have last : s.cfg.tpo - 1 = s.tick := by omega
  rw [tickerStep_of_wraps (by omega), last]
  simp [combinedCount, hp]

/-! ### The obligations -/

/-- Settles O49: the handler moves a pending overflow into `OVF`, and a step that moves `NOW` is S1's or a reset. -/
theorem theSnapshotCountsAPendingOverflow : Obligations.TheSnapshotCountsAPendingOverflow :=
  ⟨toNat_clockRead, fun _ pending => clockRead_ovfsvcStep pending,
    fun _ _ hstep moved => (step_now hstep).resolve_left moved⟩

/-- Settles O46: the tick's two cases, from the state whose turn is taken off. -/
theorem aTickCountsOrWraps : Obligations.ATickCountsOrWraps := by
  intro s turn
  rw [step_of_ticker turn]
  constructor
  · intro counts
    rw [tickerStep_of_counts (by simpa using counts)]
    simp
  · intro wraps
    rw [tickerStep_of_wraps (by simpa using wraps)]
    simp

/-- Settles O47: under `FAULT` the tick is enabled and wraps on the request, under `EXCLUDED` the loss disables it. -/
theorem aLostOverflowIsAFaultOrExcluded : Obligations.ALostOverflowIsAFaultOrExcluded := by
  refine ⟨rfl, fun s turn last pending => ⟨fun mode => ?_, fun mode => ?_⟩⟩
  · have last' : (afterTurn s).tick + 1 = (afterTurn s).cfg.tpo := by simpa using last
    have pending' : (afterTurn s).ovfPend = true := by simpa using pending
    have falls := combinedCount_tickerStep_of_lost last' pending'
    rw [afterTurn_cfg, combinedCount_afterTurn] at falls
    have wrapped := tickerStep_of_wraps (s := afterTurn s) (by omega)
    refine ⟨_, step_of_ticker ⟨turn, turnEnabled_ticker_of_fault mode⟩, ?_, ?_, ?_, ?_, falls⟩ <;>
      simp [wrapped, pending]
  · rw [turnEnabled_ticker_of_excluded mode, overflowLost_of_last_tick last pending, Bool.not_true]

end Sys2Proof.Machine
end

section
/-! PROOFS. When the handlers are enabled, and the step of the serial handler (60_exceptions.md R130, R132). -/

namespace Sys2Proof.Machine

open Sys2Proof

/-! ### When a handler is enabled (R132) -/

theorem interruptsEnabled_iff (s : State) : interruptsEnabled s = true ↔ s.sph ≠ .boot := decide_eq_true_iff

theorem turnEnabled_dispatch_iff (s : State) :
    turnEnabled .dispatch s = true ↔ s.rxPend = true ∧ s.sph ≠ .boot :=
  calc turnEnabled .dispatch s = true
    _ ↔ s.rxPend = true ∧ interruptsEnabled s = true := Bool.and_eq_true_iff
    _ ↔ s.rxPend = true ∧ s.sph ≠ .boot := and_congr_right' (interruptsEnabled_iff s)

theorem turnEnabled_ovfsvc_iff (s : State) :
    turnEnabled .ovfsvc s = true ↔ s.ovfPend = true ∧ s.sph ≠ .boot :=
  calc turnEnabled .ovfsvc s = true
    _ ↔ s.ovfPend = true ∧ interruptsEnabled s = true := Bool.and_eq_true_iff
    _ ↔ s.ovfPend = true ∧ s.sph ≠ .boot := and_congr_right' (interruptsEnabled_iff s)

/-- The serial handler waits for no request: past BOOT it is enabled (R130). -/
theorem turnEnabled_sersvc_iff (s : State) : turnEnabled .sersvc s = true ↔ s.sph ≠ .boot :=
  interruptsEnabled_iff s

/-! ### The step of the serial handler (R130) -/

/-- Entry and return are the identity (R137, R138), so all the step changes is the turn taken off (log entry 4). -/
theorem step_of_sersvc {s : State} (h : TakesTurn .sersvc s) : step s = .next (afterTurn s) := by
  obtain ⟨turn, enabled⟩ := h
  rw [step_of_enabled turn enabled, performTurn, sersvcStep_eq]

/-! ### The obligations -/

/-- Settles O17: DISPATCH and OVFSVC ask for their request and the end of BOOT, SERSVC for the end of BOOT alone. -/
theorem handlersAreEnabledExactlyOnTheirRequest : Obligations.HandlersAreEnabledExactlyOnTheirRequest :=
  fun s => ⟨turnEnabled_dispatch_iff s, turnEnabled_ovfsvc_iff s, turnEnabled_sersvc_iff s⟩

/-- Settles O60: past BOOT the handler is enabled, and its step is the turn taken off. -/
theorem theSerialHandlerChangesNoRegister : Obligations.TheSerialHandlerChangesNoRegister :=
  ⟨fun s past => (turnEnabled_sersvc_iff s).mpr past, fun _ takes => step_of_sersvc takes⟩

end Sys2Proof.Machine
end

section
/-! PROOFS. Reset and the boot load (70_reset_and_hazards.md R151, R154, R157): what reset sets and what it keeps, and
which byte BOOT loads. -/

namespace Sys2Proof.Machine

open Sys2Proof

/-! ### The registers reset sets (R151, 10_state.md R37) -/

@[simp] theorem resetStep_en (s : State) : (resetStep s).en = s.cfg.enReset := rfl
@[simp] theorem resetStep_pend (s : State) : (resetStep s).pend = false := rfl
@[simp] theorem resetStep_deadline (s : State) : (resetStep s).deadline = 0 := rfl
@[simp] theorem resetStep_dirty (s : State) : (resetStep s).dirty = false := rfl
@[simp] theorem resetStep_ovr (s : State) : (resetStep s).ovr = false := rfl
@[simp] theorem resetStep_out (s : State) : (resetStep s).out = false := rfl
theorem resetStep_tick (s : State) : (resetStep s).tick = tickReset s.cfg s.draws := rfl
@[simp] theorem resetStep_ovf (s : State) : (resetStep s).ovf = 0 := rfl
@[simp] theorem resetStep_ovfPend (s : State) : (resetStep s).ovfPend = false := rfl
@[simp] theorem resetStep_rxBuf (s : State) : (resetStep s).rxBuf = none := rfl
@[simp] theorem resetStep_sph (s : State) : (resetStep s).sph = .boot := rfl

@[simp] theorem resetStep_rxPend (s : State) : (resetStep s).rxPend = false :=
  rxPend_eq_false_of_empty (resetStep_rxBuf s)

/-- The draw of `TICK_RESET` is a value `TICK` can hold (10_state.md R22). -/
theorem tickReset_lt {c : Config} (h : 1 ≤ c.tpo) (n : Nat) : tickReset c n < c.tpo :=
  Nat.mod_lt _ h

theorem resetStep_tick_lt {s : State} (h : 1 ≤ s.cfg.tpo) : (resetStep s).tick < s.cfg.tpo := by
  rw [resetStep_tick]
  exact tickReset_lt h s.draws

/-! ### What reset keeps (R151) -/

@[simp] theorem resetStep_cfg (s : State) : (resetStep s).cfg = s.cfg := rfl
@[simp] theorem resetStep_store (s : State) : (resetStep s).store = s.store := rfl
@[simp] theorem resetStep_pinLog (s : State) : (resetStep s).pinLog = s.pinLog := rfl
@[simp] theorem resetStep_storeLog (s : State) : (resetStep s).storeLog = s.storeLog := rfl
@[simp] theorem resetStep_fOvfLost (s : State) : (resetStep s).fOvfLost = s.fOvfLost := rfl
@[simp] theorem resetStep_fClockWrap (s : State) : (resetStep s).fClockWrap = s.fClockWrap := rfl
@[simp] theorem resetStep_fDeadlineWrap (s : State) : (resetStep s).fDeadlineWrap = s.fDeadlineWrap := rfl

@[simp] theorem memRead_resetStep (a : StoreAddr) (s : State) : memRead a (resetStep s) = memRead a s :=
  memRead_congr a (resetStep_store s) (congrArg Config.storeInit (resetStep_cfg s))

/-- Reset is always enabled (R153), so its turn is never idle. -/
theorem step_of_reset {s : State} (h : nextTurn s = .reset) : step s = .next (resetStep (afterTurn s)) :=
  step_of_enabled h rfl

/-! ### The last stored byte (10_state.md R29, R157) -/

theorem lastStored_of_no_write {s : State} (h : s.storeLog = []) : lastStored s = s.cfg.storeInit := by
  rw [lastStored, h]
  rfl

theorem lastStored_of_last_write {s : State} {events : List StoreEvent} {a : Nat} {v : Byte}
    (h : s.storeLog = events ++ [.store a v]) : lastStored s = v := by
  rw [lastStored, h, List.getLast?_concat]

/-! ### BOOT (R154) -/

theorem schedStep_of_boot {s : State} (h : s.sph = .boot) :
    schedStep s = { s with dly := memRead Config.delayAddr s, sph := .s1 } := by
  rw [schedStep, h]
  rfl

/-- Taking the turn off leaves the store alone, so BOOT reads what the store read before it. -/
theorem step_of_boot {s : State} (h : SchedAt .boot s) :
    step s = .next { afterTurn s with dly := memRead Config.delayAddr s, sph := .s1 } := by
  have phase : (afterTurn s).sph = .boot := (afterTurn_sph s).trans h.2
  rw [step_of_schedAt h, schedStep_of_boot phase, memRead_afterTurn]

/-! ### The obligations -/

/-- Settles O45: BOOT loads what the store reads, which under the invariant is the last byte in the write trace. -/
theorem bootLoadsTheLastStoredByte : Obligations.BootLoadsTheLastStoredByte := by
  intro s inv boot
  refine ⟨?_, lastStored_of_no_write, fun _ _ _ => lastStored_of_last_write⟩
  rw [step_of_boot boot, inv.store_last]

/-- Settles O54: register by register, the reset step from the state whose turn is taken off. -/
theorem resetSetsEveryRegister : Obligations.ResetSetsEveryRegister := by
  intro s turn modulus
  have tick_lt : (resetStep (afterTurn s)).tick < s.cfg.tpo := by
    simpa using resetStep_tick_lt (s := afterTurn s) (by simpa using modulus)
  refine ⟨resetStep (afterTurn s), step_of_reset turn, ?_⟩
  simp [tick_lt]

end Sys2Proof.Machine
end

section
/-! PROOFS. What a step can do, in the terms of the claims: which agent took it and in which phase (`StepKind`), and for
each agent the registers that it can write and the ones that it leaves alone. -/

namespace Sys2Proof.Machine

open Sys2Proof

/-! ### Commands and the dispatch step: what they never write (40_dispatch.md R88) -/

/-- A command writes the command registers, the output and the free-value counter, and nothing else. -/
theorem exec_frame {i : Instr} {s t : State} (h : exec i s = .next t) :
    t = { s with
      en := t.en, pend := t.pend, dly := t.dly, dirty := t.dirty, ovr := t.ovr, out := t.out
      pinLog := t.pinLog, draws := t.draws } := by
  obtain ⟨-, rfl⟩ | ⟨-, rfl⟩ | ⟨-, rfl⟩ | ⟨arg, -, rfl⟩ | ⟨-, rfl⟩ | ⟨arg, -, rfl⟩ | ⟨-, rfl⟩ | ⟨-, rfl⟩ := exec_cases h
  case inl | inr.inl =>
    unfold pinWrite writeOverride
    split <;> rfl
  case inr.inr.inr.inl | inr.inr.inr.inr.inr.inl => cases arg <;> rfl
  all_goals rfl

/-! ### The scheduler, phase by phase (41_scheduler.md R96 to R103) -/

theorem schedStep_of_s1 {s : State} (h : s.sph = .s1) : schedStep s = { s with now := clockRead s, sph := .s2 } := by
  rw [schedStep, h]
  rfl

theorem schedStep_of_s2 {s : State} (h : s.sph = .s2) : schedStep s = goTo .s3 (dirtyLatch s) := by
  rw [schedStep, h]
  rfl

theorem schedStep_of_s3 {s : State} (h : s.sph = .s3) :
    schedStep s = { s with g := s.en, sph := if s.en then .s3a else .s4 } := by
  rw [schedStep, h]
  rfl

theorem schedStep_of_s3b {s : State} (h : s.sph = .s3b) : schedStep s = goTo .s1 (comparator s) := by
  rw [schedStep, h]
  rfl

theorem schedStep_of_s4 {s : State} (h : s.sph = .s4) :
    schedStep s = { s with pend := false, sph := if s.cfg.deadlineGated then .s1 else .s3b } := by
  rw [schedStep, h]
  rfl

/-- Everything a micro-step can do, latch by latch: BOOT, S1, S2, S3, S3A, S3B and S4. -/
inductive SchedKind (s : State) : State → Prop
  | boot : s.sph = .boot → SchedKind s { s with dly := memRead Config.delayAddr s, sph := .s1 }
  | snapshot : s.sph = .s1 → SchedKind s { s with now := clockRead s, sph := .s2 }
  | persist : s.sph = .s2 → s.dirty = true →
      SchedKind s (goTo .s3 (memWrite Config.delayAddr s.dly { s with dirty := false }))
  | nothingToPersist : s.sph = .s2 → s.dirty = false → SchedKind s { s with sph := .s3 }
  | gate : s.sph = .s3 → SchedKind s { s with g := s.en, sph := if s.en then .s3a else .s4 }
  | episode : s.sph = .s3a → s.pend = true →
      SchedKind s { s with
        pend := false
        fDeadlineWrap := s.fDeadlineWrap || deadlineWraps s
        deadline := BitVec.ofNat 64 (deadlineSum s)
        out := true
        pinLog := s.pinLog ++ [.pin true]
        sph := .s3b }
  | noEpisode : s.sph = .s3a → s.pend = false → SchedKind s { s with sph := .s3b }
  | fire : s.sph = .s3b → deadlineExpired s = true →
      SchedKind s { s with deadline := 0, out := false, pinLog := s.pinLog ++ [.pin false], sph := .s1 }
  | noFire : s.sph = .s3b → deadlineExpired s = false → SchedKind s { s with sph := .s1 }
  | cancel : s.sph = .s4 →
      SchedKind s { s with pend := false, sph := if s.cfg.deadlineGated then .s1 else .s3b }

theorem schedKind (s : State) : SchedKind s (schedStep s) := by
  cases h : s.sph with
  | boot => exact schedStep_of_boot h ▸ .boot h
  | s1 => exact schedStep_of_s1 h ▸ .snapshot h
  | s2 =>
    rw [schedStep_of_s2 h, dirtyLatch_eq]
    cases hd : s.dirty with
    | true => exact .persist h hd
    | false => exact .nothingToPersist h hd
  | s3 => exact schedStep_of_s3 h ▸ .gate h
  | s3a =>
    rw [schedStep_of_s3a h, armLatch_eq]
    cases hp : s.pend with
    | true => exact .episode h hp
    | false => exact .noEpisode h hp
  | s3b =>
    rw [schedStep_of_s3b h, comparator_eq]
    cases he : deadlineExpired s with
    | true => exact .fire h he
    | false => exact .noFire h he
  | s4 => exact schedStep_of_s4 h ▸ .cancel h

/-! ### A step, by the agent that takes it -/

/-- Everything a step can do: an idle turn, or the step of the agent whose turn it is; for DISPATCH the flush alone or a
command and the flush. -/
inductive StepKind (s : State) : State → Prop
  | idle : turnEnabled (nextTurn s) s = false → StepKind s (afterTurn s)
  | ticker : TakesTurn .ticker s → StepKind s (tickerStep (afterTurn s))
  | ovfsvc : TakesTurn .ovfsvc s → StepKind s (ovfsvcStep (afterTurn s))
  | discard : TakesTurn .dispatch s → (∀ i, ¬ Dispatches (.command i) s) → StepKind s (flush (afterTurn s))
  | command (i : Instr) (u : State) : Dispatches (.command i) s → exec i (afterTurn s) = .next u → StepKind s (flush u)
  | sersvc : TakesTurn .sersvc s → StepKind s (afterTurn s)
  | sched (t : State) : TakesTurn .sched s → SchedKind (afterTurn s) t → StepKind s t
  | rx (p : Packet) : TakesTurn (.rx p) s → StepKind s (rxStep p (afterTurn s))
  | reset : nextTurn s = .reset → StepKind s (resetStep (afterTurn s))

theorem rxPend_iff (s : State) : s.rxPend = true ↔ ∃ p, s.rxBuf = some p := Option.isSome_iff_exists

theorem stepKind {s t : State} (h : step s = .next t) : StepKind s t := by
  obtain ⟨idle, rfl⟩ | ⟨enabled, ⟨turn, rfl⟩ | ⟨turn, rfl⟩ | ⟨turn, hd⟩ | ⟨turn, rfl⟩ | ⟨turn, rfl⟩ | ⟨p, turn, rfl⟩ |
    ⟨turn, rfl⟩⟩ := step_cases h
  · exact .idle idle
  all_goals rw [turn] at enabled
  · exact .ticker ⟨turn, enabled⟩
  · exact .ovfsvc ⟨turn, enabled⟩
  · have takes : TakesTurn .dispatch s := ⟨turn, enabled⟩
    obtain ⟨empty, -⟩ | ⟨p, hp, discarded, rfl⟩ | ⟨p, i, u, hp, hi, he, rfl⟩ := dispatchStep_cases hd
    · rw [afterTurn_rxBuf] at empty
      simp [turnEnabled, rxPend_eq_false_of_empty empty] at enabled
    · rw [afterTurn_rxBuf] at hp
      refine .discard takes ?_
      rintro i ⟨-, q, hq, hi⟩
      obtain rfl : p = q := Option.some.inj (hp.symm.trans hq)
      exact discarded i (by rwa [afterTurn_cfg])
    · rw [afterTurn_rxBuf] at hp
      rw [afterTurn_cfg] at hi
      exact .command i u ⟨takes, p, hp, hi⟩ he
  · exact .sersvc ⟨turn, enabled⟩
  · exact .sched _ ⟨turn, enabled⟩ (schedKind _)
  · exact .rx p ⟨turn, enabled⟩
  · exact .reset turn

end Sys2Proof.Machine
end

section
/-! PROOFS. The round trip of the encoding (30_encoding.md R60 to R69): a well-formed command decodes from its packet, and
a packet that decodes to a command begins with that command's encoding. -/

namespace Sys2Proof

/-! ### From the command to its packet -/

theorem decodeArg_of_wellFormed {c : Config} {arg : Option Byte} (h : argWellFormed c arg = true)
    (mk : Option Byte → Instr) : decodeArg c mk arg = .command (mk arg) := by
  cases arg with
  | none => exact decodeArg_absent_draw (by simpa [argWellFormed] using h) mk
  | some v => exact decodeArg_present c mk v

theorem decodeOpcode_opcodeOf {c : Config} {i : Instr} (h : i.wellFormed c = true) :
    decodeOpcode c (opcodeOf i) (argOf i) = .command i := by
  cases i with
  | on => exact decodeOpcode_on c _
  | off => exact decodeOpcode_off c _
  | arm => exact decodeOpcode_arm c _
  | setdly arg => exact (decodeOpcode_setdly c arg).trans (decodeArg_of_wellFormed h .setdly)
  | save => exact decodeOpcode_save c _
  | setsave arg => exact (decodeOpcode_setsave c arg).trans (decodeArg_of_wellFormed h .setsave)
  | disable => exact decodeOpcode_disable c _
  | enable => exact decodeOpcode_enable c _

/-! ### From the packet to its command -/

theorem decodeArg_command {c : Config} {mk : Option Byte → Instr} {arg : Option Byte} {i : Instr}
    (h : decodeArg c mk arg = .command i) : i = mk arg ∧ (arg = none → c.argAbsent = .draw) := by
  cases arg with
  | some v => simpa [eq_comm] using h
  | none =>
    rw [decodeArg_absent] at h
    split at h
    · rename_i draw
      exact ⟨(DecodeClass.command.inj h).symm, fun _ => draw⟩
    · simp at h

theorem argWellFormed_of {c : Config} {arg : Option Byte} (absent : arg = none → c.argAbsent = .draw)
    (present : arg ≠ none → 3 ≤ c.maxPayload) : argWellFormed c arg = true := by
  cases arg with
  | none => simpa [argWellFormed] using absent
  | some v => simpa [argWellFormed] using present

/-- The opcode map read backwards: the opcode and the argument of the command are those of the packet, where the command
has an argument at all. -/
theorem decodeOpcode_command {c : Config} {opc : Byte} {arg : Option Byte} {i : Instr}
    (h : decodeOpcode c opc arg = .command i) (present : arg ≠ none → 3 ≤ c.maxPayload) :
    opcodeOf i = opc ∧ (argOf i = none ∨ argOf i = arg) ∧ i.wellFormed c = true := by
  have plain (j : Instr) (hj : DecodeClass.command j = .command i) (hopc : opc = opcodeOf j) (hno : argOf j = none)
      (hwf : j.wellFormed c = true) : opcodeOf i = opc ∧ (argOf i = none ∨ argOf i = arg) ∧ i.wellFormed c = true := by
    obtain rfl := DecodeClass.command.inj hj
    exact ⟨hopc.symm, .inl hno, hwf⟩
  unfold decodeOpcode at h
  split_ifs at h with hopc hopc hopc hopc hopc hopc hopc hopc
  · exact plain _ h hopc rfl rfl
  · exact plain _ h hopc rfl rfl
  · exact plain _ h hopc rfl rfl
  · obtain ⟨rfl, absent⟩ := decodeArg_command h
    exact ⟨hopc.symm, .inr rfl, argWellFormed_of absent present⟩
  · exact plain _ h hopc rfl rfl
  · obtain ⟨rfl, absent⟩ := decodeArg_command h
    exact ⟨hopc.symm, .inr rfl, argWellFormed_of absent present⟩
  · exact plain _ h hopc rfl rfl
  · exact plain _ h hopc rfl rfl

theorem take_two_eq_encode {c : Config} {i : Instr} (ha : argOf i = none) (rest : List Byte) :
    (encode c i).b = (c.familyId :: opcodeOf i :: rest).take (encode c i).len := by
  simp [encode, Packet.len, ha]

theorem take_eq_encode_of_head? {c : Config} {i : Instr} {rest : List Byte} (ha : argOf i = rest.head?) :
    (encode c i).b = (c.familyId :: opcodeOf i :: rest).take (encode c i).len := by
  cases rest <;> simp_all [encode, Packet.len]

/-- A packet with a byte after the opcode has at least three bytes. -/
theorem three_le_of_head? {c : Config} {adr opc : Byte} {rest : List Byte}
    (hlen : Packet.len ⟨true, adr :: opc :: rest⟩ ≤ c.maxPayload) (h : rest.head? ≠ none) : 3 ≤ c.maxPayload := by
  cases rest with
  | nil => simp at h
  | cons v more =>
    simp only [Packet.len, List.length_cons] at hlen
    omega

/-! ### The obligations -/

/-- Settles O1: the packet passes the address test, and its opcode and argument are the command's. -/
theorem decodeOfEncodeIsTheCommand : Obligations.DecodeOfEncodeIsTheCommand := by
  intro c i h
  rw [encode, decode_familyId, Option.head?_toList]
  exact decodeOpcode_opcodeOf h

/-- Settles O2: the command's opcode and argument are read off the packet, so its encoding is the packet's first two or
three bytes. -/
theorem decodedPacketBeginsWithItsEncoding : Obligations.DecodedPacketBeginsWithItsEncoding := by
  intro c p i _ hlen hdecode
  obtain ⟨opc, rest, rfl, hopc⟩ := decode_command hdecode
  obtain ⟨rfl, hno | harg, hwf⟩ := decodeOpcode_command hopc (three_le_of_head? hlen)
  · exact ⟨rfl, take_two_eq_encode hno rest, hwf⟩
  · exact ⟨rfl, take_eq_encode_of_head? harg, hwf⟩

/-- Settles O7: ten closed words, each decoded on the node its own address byte names. -/
theorem handWrittenWordsDecode : Obligations.HandWrittenWordsDecode := by
  refine ⟨?_, ?_, ?_, ?_, ?_, ?_, ?_, ?_, ?_, ?_⟩ <;> rfl

end Sys2Proof
end

section
/-! PROOFS. What a command writes (40_dispatch.md R78 to R92): register by register, from which states it makes no
difference, and what every DISPATCH leaves alone. -/

namespace Sys2Proof.Machine

open Sys2Proof

/-! ### What a command does to each register it can write -/

theorem exec_en {i : Instr} {s t : State} (h : exec i s = .next t) :
    t.en = s.en ∨ (t.en = true ∧ i = .enable) ∨
      (t.en = false ∧ (i = .disable ∨ (s.cfg.ovrMode = .aliasEnable ∧ (i = .on ∨ i = .off)))) := by
  cases i with
  | on | off =>
    obtain rfl := Host.Outcome.next.inj h
    cases mode : s.cfg.ovrMode <;> simp [mode]
  | arm | setdly | save | setsave | disable | enable =>
    obtain rfl := Host.Outcome.next.inj h
    simp

theorem exec_pend {i : Instr} {s t : State} (h : exec i s = .next t) : t.pend = (s.pend || decide (i = .arm)) := by
  cases i <;> obtain rfl := Host.Outcome.next.inj h <;> simp

theorem exec_dly {i : Instr} {s t : State} (h : exec i s = .next t) :
    t.dly = s.dly ∨ ∃ arg, (i = .setdly arg ∨ i = .setsave arg) ∧ t.dly = argValue arg s := by
  cases i <;> obtain rfl := Host.Outcome.next.inj h <;> simp

theorem exec_dirty {i : Instr} {s t : State} (h : exec i s = .next t) :
    t.dirty = s.dirty ∨ (t.dirty = true ∧ (i = .save ∨ ∃ arg, i = .setsave arg)) := by
  cases i <;> obtain rfl := Host.Outcome.next.inj h <;> simp

theorem exec_ovr {i : Instr} {s t : State} (h : exec i s = .next t) (hs : s.ovr = false) : t.ovr = false := by
  cases i <;> obtain rfl := Host.Outcome.next.inj h <;> simp [hs]

/-- ON and OFF alone drive the output, each with its event (R90). -/
theorem exec_output {i : Instr} {s t : State} (h : exec i s = .next t) :
    (i ≠ .on ∧ i ≠ .off ∧ t.out = s.out ∧ t.pinLog = s.pinLog) ∨
    (i = .on ∧ t.out = true ∧ t.pinLog = s.pinLog ++ [.pin true]) ∨
    (i = .off ∧ t.out = false ∧ t.pinLog = s.pinLog ++ [.pin false]) := by
  cases i <;> obtain rfl := Host.Outcome.next.inj h <;> simp

/-! ### The override write in each mode (R78, R79) -/

theorem writeOverride_of_alias {s : State} (h : s.cfg.ovrMode = .aliasEnable) :
    writeOverride s = { s with en := false } := by
  rw [writeOverride, h]

theorem writeOverride_of_separate {s : State} (h : s.cfg.ovrMode = .separate) :
    writeOverride s = { s with ovr := false } := by
  rw [writeOverride, h]

/-- Settles O8: the override write of the mode, then the pin write. -/
theorem onAndOffWriteTheOverrideAndTheOutput : Obligations.OnAndOffWriteTheOverrideAndTheOutput := by
  refine fun s => ⟨fun mode => ?_, fun mode => ?_⟩
  · simp only [exec, execOn, execOff, writeOverride_of_alias mode]
    exact ⟨rfl, rfl⟩
  · simp only [exec, execOn, execOff, writeOverride_of_separate mode]
    exact ⟨rfl, rfl⟩

/-- Settles O9: each is the definition of its command. -/
theorem armSaveDisableEnableWriteOneFlag : Obligations.ArmSaveDisableEnableWriteOneFlag :=
  fun _ => ⟨rfl, rfl, rfl, rfl⟩

/-- Settles O10: each is the definition of its command, on a present and on an absent argument. -/
theorem setdlyAndSetsaveWriteTheDelay : Obligations.SetdlyAndSetsaveWriteTheDelay :=
  fun _ => ⟨fun _ => rfl, fun _ => rfl, rfl, rfl⟩

/-! ### No command reads a register (R88, R91) -/

/-- Two states into which a command writes the same: each register is left alone in both, or equal in both. -/
theorem exec_reads_no_register {i : Instr} {s s' t t' : State} (hcfg : s.cfg = s'.cfg) (hdraws : s.draws = s'.draws)
    (h : exec i s = .next t) (h' : exec i s' = .next t') :
    ((t.en = s.en ∧ t'.en = s'.en) ∨ t.en = t'.en) ∧
    ((t.pend = s.pend ∧ t'.pend = s'.pend) ∨ t.pend = t'.pend) ∧
    ((t.dly = s.dly ∧ t'.dly = s'.dly) ∨ t.dly = t'.dly) ∧
    ((t.dirty = s.dirty ∧ t'.dirty = s'.dirty) ∨ t.dirty = t'.dirty) ∧
    ((t.ovr = s.ovr ∧ t'.ovr = s'.ovr) ∨ t.ovr = t'.ovr) ∧
    ((t.out = s.out ∧ t'.out = s'.out) ∨ t.out = t'.out) ∧
    ∃ events : List PinEvent, t.pinLog = s.pinLog ++ events ∧ t'.pinLog = s'.pinLog ++ events := by
  cases i with
  | on | off =>
    obtain rfl := Host.Outcome.next.inj h
    obtain rfl := Host.Outcome.next.inj h'
    cases mode : s'.cfg.ovrMode <;> simp [hcfg, mode]
  | setdly arg | setsave arg =>
    obtain rfl := Host.Outcome.next.inj h
    obtain rfl := Host.Outcome.next.inj h'
    cases arg <;> simp [argValue, hdraws]
  | arm | save | disable | enable =>
    obtain rfl := Host.Outcome.next.inj h
    obtain rfl := Host.Outcome.next.inj h'
    simp

/-- A command given twice: the pin events come again, an absent argument is drawn anew, and all else is as after the
first. -/
theorem exec_twice {i : Instr} {s t u : State} (h : exec i s = .next t) (h' : exec i t = .next u) :
    (∃ events : List PinEvent, t.pinLog = s.pinLog ++ events ∧ u.pinLog = t.pinLog ++ events) ∧
    (i ≠ .setdly none → i ≠ .setsave none → u = { t with pinLog := u.pinLog }) ∧
    (i = .setdly none ∨ i = .setsave none → u = { t with dly := u.dly, draws := t.draws + 1 }) := by
  cases i with
  | on | off =>
    obtain rfl := Host.Outcome.next.inj h
    obtain rfl := Host.Outcome.next.inj h'
    refine ⟨by simp, fun _ _ => ?_, by simp⟩
    cases mode : s.cfg.ovrMode
    · simp [writeOverride, pinWrite, mode]
    · simp [writeOverride, pinWrite, mode]
  | setdly arg | setsave arg =>
    obtain rfl := Host.Outcome.next.inj h
    obtain rfl := Host.Outcome.next.inj h'
    cases arg <;> simp [argValue, afterArg]
  | arm | save | disable | enable =>
    obtain rfl := Host.Outcome.next.inj h
    obtain rfl := Host.Outcome.next.inj h'
    simp

/-- Settles O13: what a command writes depends on the parameters and the next free value alone, and a second delivery
writes it again. -/
theorem commandsReadNoRegisterAndRepeatHarmlessly : Obligations.CommandsReadNoRegisterAndRepeatHarmlessly :=
  ⟨fun _ _ _ _ _ => exec_reads_no_register, fun _ _ _ _ => exec_twice⟩

/-! ### What no DISPATCH touches (R88) -/

/-- A DISPATCH step writes what a command writes and the receive buffer. -/
theorem dispatchStep_frame {s t : State} (h : dispatchStep s = .next t) :
    t = { s with
      en := t.en, pend := t.pend, dly := t.dly, dirty := t.dirty, ovr := t.ovr, out := t.out
      pinLog := t.pinLog, draws := t.draws, rxBuf := t.rxBuf } := by
  obtain ⟨-, rfl⟩ | ⟨p, -, -, rfl⟩ | ⟨p, i, u, -, -, he, rfl⟩ := dispatchStep_cases h
  · rfl
  · rfl
  · exact congrArg flush (exec_frame he)

/-- No DISPATCH clears a request. -/
theorem dispatchStep_keeps_requests {s t : State} (h : dispatchStep s = .next t) :
    (s.pend = true → t.pend = true) ∧ (s.dirty = true → t.dirty = true) := by
  obtain ⟨-, rfl⟩ | ⟨p, -, -, rfl⟩ | ⟨p, i, u, -, -, he, rfl⟩ := dispatchStep_cases h
  · exact ⟨id, id⟩
  · exact ⟨id, id⟩
  · refine ⟨fun pending => ?_, fun dirty => ?_⟩
    · rw [flush_pend, exec_pend he, pending, Bool.true_or]
    · obtain kept | ⟨set, -⟩ := exec_dirty he
      · exact (flush_dirty u).trans (kept.trans dirty)
      · exact (flush_dirty u).trans set

/-- Settles O12: the frame of the step, field by field, and the requests it keeps. -/
theorem dispatchLeavesClockSequencerAndStoreAlone : Obligations.DispatchLeavesClockSequencerAndStoreAlone := by
  intro s t h
  have frame := dispatchStep_frame h
  have store : t.store = s.store := (congrArg State.store frame :)
  have cfg : t.cfg = s.cfg := (congrArg State.cfg frame :)
  exact ⟨(congrArg State.deadline frame :), (congrArg State.sph frame :), (congrArg State.now frame :),
    (congrArg State.g frame :), (congrArg State.tick frame :), (congrArg State.ovf frame :),
    (congrArg State.ovfPend frame :), store, (congrArg State.storeLog frame :),
    fun a => memRead_congr a store (congrArg Config.storeInit cfg), cfg, (congrArg State.turns frame :),
    dispatchStep_keeps_requests h⟩

/-! ### Packets without a command (R63, R92) -/

/-- Settles O14: a packet that decodes to a command is a successful receive with `FAMILY_ID` first, which no malformed
packet is; every other packet is the flush alone. -/
theorem malformedPacketsChangeNothing : Obligations.MalformedPacketsChangeNothing := by
  intro s p hp malformed
  refine dispatchStep_of_discarded hp fun i hi => ?_
  obtain ⟨opc, rest, rfl, -⟩ := decode_command hi
  obtain hok | hlen | hadr | hshort := malformed
  · simp at hok
  · simp only [Packet.len, List.length_cons] at hlen
    omega
  · exact hadr rfl
  · simp [hi] at hshort

theorem decode_absent_draw {c : Config} (h : c.argAbsent = .draw) :
    decode c ⟨true, [c.familyId, 103]⟩ = .command (.setdly none) ∧
    decode c ⟨true, [c.familyId, 105]⟩ = .command (.setsave none) := by
  rw [decode_familyId, decode_familyId]
  exact ⟨decodeArg_absent_draw h .setdly, decodeArg_absent_draw h .setsave⟩

theorem decode_absent_discard {c : Config} (h : c.argAbsent = .discard) :
    decode c ⟨true, [c.familyId, 103]⟩ = .dropShort ∧ decode c ⟨true, [c.familyId, 105]⟩ = .dropShort := by
  rw [decode_familyId, decode_familyId]
  exact ⟨decodeArg_absent_discard h .setdly, decodeArg_absent_discard h .setsave⟩

/-- Settles O5: under `DRAW` the packet is the command with a free value, under `DISCARD` it is too short. -/
theorem missingArgumentIsDrawnOrDiscarded : Obligations.MissingArgumentIsDrawnOrDiscarded := by
  refine ⟨rfl, fun s => ⟨fun hp => ⟨fun draw => ?_, fun discard => ?_⟩, fun hp => ⟨fun draw => ?_, fun discard => ?_⟩⟩⟩
  · exact dispatchStep_of_command hp (decode_absent_draw draw).1 rfl
  · obtain ⟨short, -⟩ := decode_absent_discard discard
    exact ⟨short, dispatchStep_of_discarded hp (by rw [short]; exact nofun)⟩
  · exact dispatchStep_of_command hp (decode_absent_draw draw).2 rfl
  · obtain ⟨-, short⟩ := decode_absent_discard discard
    exact ⟨short, dispatchStep_of_discarded hp (by rw [short]; exact nofun)⟩

end Sys2Proof.Machine
end

section
/-! PROOFS. Turns: what a turn runs, that every step completes and keeps the parameters, who moves the sequencer, and that
the order of two handlers never shows (40_dispatch.md R73, R74, 60_exceptions.md R134, R137). -/

namespace Sys2Proof.Machine

open Sys2Proof

/-! ### One agent takes the turn -/

theorem TakesTurn.turn_eq {t t' : Turn} {s : State} (h : TakesTurn t s) (h' : TakesTurn t' s) : t = t' :=
  h.1.symm.trans h'.1

theorem step_of_takesTurn {t : Turn} {s : State} (h : TakesTurn t s) : step s = performTurn t (afterTurn s) :=
  step_of_enabled h.1 h.2

/-- A DISPATCH step whose packet is a command runs the command, then the flush (R74, R87). -/
theorem step_of_dispatches {i : Instr} {s : State} (h : Dispatches (.command i) s) :
    step s = mapNext flush (exec i (afterTurn s)) := by
  obtain ⟨takes, p, hp, hi⟩ := h
  have buffered : (afterTurn s).rxBuf = some p := (afterTurn_rxBuf s).trans hp
  rw [step_of_takesTurn takes, performTurn, dispatchStep_eq buffered, afterTurn_cfg, hi, performClass]

/-! ### Every step completes (00_scope.md R11) -/

theorem performTurn_completes (t : Turn) (s : State) : ∃ u, performTurn t s = .next u := by
  cases t with
  | dispatch => exact dispatchStep_completes s
  | ticker | ovfsvc | sersvc | sched | rx | reset => exact ⟨_, rfl⟩

theorem step_completes (s : State) : ∃ t, step s = .next t := by
  by_cases enabled : turnEnabled (nextTurn s) s = true
  · rw [step_of_takesTurn ⟨rfl, enabled⟩]
    exact performTurn_completes _ _
  · exact ⟨_, step_of_idle (by simpa using enabled)⟩

/-- No step writes a parameter (10_state.md R15). -/
theorem step_cfg {s t : State} (h : step s = .next t) : t.cfg = s.cfg := by
  cases stepKind h with
  | ticker => simp [tickerStep_eq]
  | command i u _ he => exact (congrArg State.cfg (exec_frame he) :).trans (afterTurn_cfg s)
  | sched _ _ kind => cases kind <;> simp
  | idle | ovfsvc | discard | sersvc | rx | reset => simp [ovfsvcStep_eq, rxStep]

/-! ### Two handlers -/

/-- A command and the overflow handler write different registers, and neither reads the other's. -/
theorem exec_ovfsvcStep (i : Instr) (s : State) : exec i (ovfsvcStep s) = mapNext ovfsvcStep (exec i s) := by
  cases i with
  | on | off =>
    cases mode : s.cfg.ovrMode <;>
      simp [exec, execOn, execOff, mapNext, ovfsvcStep_eq, pinWrite, writeOverride, mode]
  | setdly arg | setsave arg => cases arg <;> rfl
  | arm | save | disable | enable => rfl

theorem performClass_ovfsvcStep (cls : DecodeClass) (s : State) :
    performClass cls (ovfsvcStep s) = mapNext ovfsvcStep (performClass cls s) := by
  cases cls with
  | command i => exact exec_ovfsvcStep i s
  | dropRxFail | dropShort | dropAddr | unknown => rfl

theorem mapNext_comm {f g : State → State} (h : ∀ s, f (g s) = g (f s)) (o : Host.Outcome State Fault Refusal) :
    mapNext f (mapNext g o) = mapNext g (mapNext f o) := by
  cases o with
  | next s => exact congrArg Host.Outcome.next (h s)
  | fault | refused => rfl

theorem mapNext_sersvcStep (o : Host.Outcome State Fault Refusal) : mapNext sersvcStep o = o := by
  cases o <;> rfl

theorem dispatchStep_ovfsvcStep (s : State) : dispatchStep (ovfsvcStep s) = mapNext ovfsvcStep (dispatchStep s) := by
  cases hp : s.rxBuf with
  | none => rw [dispatchStep_of_no_packet hp, dispatchStep_of_no_packet (s := ovfsvcStep s) hp, mapNext]
  | some p =>
    rw [dispatchStep_eq hp, dispatchStep_eq (s := ovfsvcStep s) hp, performClass_ovfsvcStep]
    exact mapNext_comm (f := flush) (g := ovfsvcStep) (fun _ => rfl) _

/-! ### The obligations -/

/-- Settles O15: DISPATCH with interrupts enabled and a packet in the buffer is enabled, and its step is the command's. -/
theorem stepRunsTheDecodedCommand : Obligations.StepRunsTheDecodedCommand := by
  intro s p i turn past hp hi
  have enabled : turnEnabled .dispatch s = true := (turnEnabled_dispatch_iff s).mpr ⟨(rxPend_iff s).mpr ⟨p, hp⟩, past⟩
  exact step_of_dispatches ⟨⟨turn, enabled⟩, p, hp, hi⟩

/-- Settles O16: an idle turn is the turn taken off. -/
theorem anIdleTurnChangesNothing : Obligations.AnIdleTurnChangesNothing :=
  fun _ idle => step_of_idle idle

/-- Settles O18: each agent's step completes, and none writes a parameter. -/
theorem everyStepAnswersANextState : Obligations.EveryStepAnswersANextState := by
  intro s
  obtain ⟨t, ht⟩ := step_completes s
  exact ⟨t, ht, step_cfg ht⟩

/-- Settles O19: an empty buffer enables the delivery of a packet that fits, and a full one disables it. -/
theorem aPacketIsTakenOnlyIntoAnEmptyBuffer : Obligations.APacketIsTakenOnlyIntoAnEmptyBuffer := by
  intro s p turn fits
  refine ⟨fun empty => ?_, fun full => ?_⟩
  · have enabled : turnEnabled (.rx p) s = true := by simp [turnEnabled, rxEnabled, empty, fits]
    exact step_of_takesTurn ⟨turn, enabled⟩
  · exact step_of_idle (by simp [turn, turnEnabled, rxEnabled, full])

/-- Settles O20: of the agents, SCHED and reset are the only ones whose step writes the sequencer. -/
theorem handlersLeaveTheSequencerAlone : Obligations.HandlersLeaveTheSequencerAlone := by
  intro s t h notSched notReset
  cases stepKind h with
  | ticker => simp [tickerStep_eq]
  | command i u _ he =>
    have frame := exec_frame he
    exact ⟨(congrArg State.sph frame :).trans (afterTurn_sph s), (congrArg State.now frame :).trans (afterTurn_now s),
      (congrArg State.g frame :).trans (afterTurn_g s)⟩
  | sched _ takes => exact absurd takes.1 notSched
  | reset turn => exact absurd turn notReset
  | idle | ovfsvc | discard | sersvc | rx => simp [ovfsvcStep_eq, rxStep]

/-- Settles O21: DISPATCH never touches the clock registers that OVFSVC writes, and SERSVC writes nothing. -/
theorem handlersCommute : Obligations.HandlersCommute := by
  refine ⟨fun s packet overflow past => ?_, dispatchStep_ovfsvcStep, fun s => (mapNext_sersvcStep _).symm, fun _ => rfl⟩
  exact ⟨(turnEnabled_dispatch_iff s).mpr ⟨packet, past⟩, (turnEnabled_ovfsvc_iff s).mpr ⟨overflow, past⟩,
    (turnEnabled_sersvc_iff s).mpr past⟩

end Sys2Proof.Machine
end

section
/-! PROOFS. The micro-steps of the scheduler as steps of the block (41_scheduler.md R94 to R103), and what a few of them
make together (R104, R106, R109, 70_reset_and_hazards.md R161). -/

namespace Sys2Proof.Machine

open Sys2Proof

/-! ### The latches, by their conditions -/

theorem dirtyLatch_of_dirty {s : State} (h : s.dirty = true) :
    dirtyLatch s = memWrite Config.delayAddr s.dly { s with dirty := false } := by
  rw [dirtyLatch_eq, if_pos h]

theorem dirtyLatch_of_clean {s : State} (h : s.dirty = false) : dirtyLatch s = s := by
  rw [dirtyLatch_eq, h]
  rfl

theorem armLatch_of_pend {s : State} (h : s.pend = true) :
    armLatch s = { s with
      pend := false
      fDeadlineWrap := s.fDeadlineWrap || deadlineWraps s
      deadline := BitVec.ofNat 64 (deadlineSum s)
      out := true
      pinLog := s.pinLog ++ [.pin true] } := by
  rw [armLatch_eq, if_pos h]

theorem armLatch_of_no_pend {s : State} (h : s.pend = false) : armLatch s = s := by
  rw [armLatch_eq, h]
  rfl

theorem deadlineExpired_iff (s : State) :
    deadlineExpired s = true ↔ s.deadline ≠ 0 ∧ s.deadline.toNat ≤ s.now.toNat := by
  simp [deadlineExpired]

theorem comparator_of_expired {s : State} (h : deadlineExpired s = true) :
    comparator s = { s with deadline := 0, out := false, pinLog := s.pinLog ++ [.pin false] } := by
  rw [comparator_eq, if_pos h]

theorem comparator_of_not_expired {s : State} (h : deadlineExpired s = false) : comparator s = s := by
  rw [comparator_eq, h]
  rfl

theorem deadlineExpired_of_no_deadline {s : State} (h : s.deadline = 0) : deadlineExpired s = false := by
  simp [deadlineExpired, h]

/-! ### One micro-step -/

@[simp] theorem memRead_goTo (a : StoreAddr) (ph : Phase) (s : State) : memRead a (goTo ph s) = memRead a s := rfl

theorem schedAt_afterTurn {ph : Phase} {s : State} (h : SchedAt ph s) : (afterTurn s).sph = ph :=
  (afterTurn_sph s).trans h.2

/-- The iteration table of R94: where a micro-step hands over to, by `DEADLINE_GATED` and by the gate that S3 samples. -/
def nextPhase (gated en : Bool) : Phase → Phase
  | .boot => .s1
  | .s1 => .s2
  | .s2 => .s3
  | .s3 => if en then .s3a else .s4
  | .s3a => .s3b
  | .s3b => .s1
  | .s4 => if gated then .s1 else .s3b

theorem schedStep_sph (s : State) : (schedStep s).sph = nextPhase s.cfg.deadlineGated s.en s.sph := by
  have kind := schedKind s
  generalize schedStep s = t at kind
  cases kind <;> simp [nextPhase, *]

/-- S3 alone writes `G` (R98). -/
theorem schedStep_g (s : State) : (schedStep s).g = if s.sph = .s3 then s.en else s.g := by
  have kind := schedKind s
  generalize schedStep s = t at kind
  cases kind <;> simp [*]

/-- No micro-step writes the gate. -/
theorem schedStep_en (s : State) : (schedStep s).en = s.en := by
  have kind := schedKind s
  generalize schedStep s = t at kind
  cases kind <;> rfl

/-- S3A and S3B are the only micro-steps that touch the output or the countdown. -/
theorem schedStep_quiet {s : State} (h : s.sph ≠ .s3a ∧ s.sph ≠ .s3b) :
    (schedStep s).out = s.out ∧ (schedStep s).pinLog = s.pinLog ∧ (schedStep s).deadline = s.deadline := by
  have kind := schedKind s
  generalize schedStep s = t at kind
  cases kind with
  | episode phase | noEpisode phase => exact absurd phase h.1
  | fire phase | noFire phase => exact absurd phase h.2
  | boot | snapshot | persist | nothingToPersist | gate | cancel => exact ⟨rfl, rfl, rfl⟩

/-- Settles O22: the phase each micro-step leaves, where S3's is that of the gate it has just latched. -/
theorem theSequencerFollowsTheIterationTable : Obligations.TheSequencerFollowsTheIterationTable := by
  intro s turn
  refine ⟨_, step_of_takesTurn ⟨turn, rfl⟩, ?_⟩
  rw [schedStep_sph, schedStep_g, afterTurn_sph]
  cases s.sph <;> simp [nextPhase]

/-- Settles O23: S1's micro-step from the state whose turn is taken off. -/
theorem s1LatchesTheClock : Obligations.S1LatchesTheClock := by
  intro s h
  rw [step_of_schedAt h, schedStep_of_s1 (schedAt_afterTurn h), clockRead_afterTurn]
  rfl

/-- Settles O24: the dirty latch in both settings of `DIRTY`; a canonical store reads back what is written. -/
theorem s2WritesTheDelayOncePerRequest : Obligations.S2WritesTheDelayOncePerRequest := by
  intro s h
  rw [step_of_schedAt h, schedStep_of_s2 (schedAt_afterTurn h)]
  refine ⟨fun dirty => ⟨_, rfl, ?_, fun canonical => ?_⟩, fun clean => ?_⟩
  · rw [dirtyLatch_of_dirty (by simpa using dirty)]
    simp [memWrite, goTo, Config.delayAddr]
  · rw [dirtyLatch_of_dirty (by simpa using dirty), afterTurn_dly]
    rw [memRead_goTo]
    exact memRead_memWrite_same Config.delayAddr s.dly _ (by simpa using canonical)
  · rw [dirtyLatch_of_clean (by simpa using clean)]
    rfl

/-- Settles O25: S3's micro-step from the state whose turn is taken off. -/
theorem s3LatchesTheGate : Obligations.S3LatchesTheGate := by
  intro s h
  rw [step_of_schedAt h, schedStep_of_s3 (schedAt_afterTurn h)]
  simp

/-- Settles O26: the arm latch in both settings of `PEND`. -/
theorem s3aStartsTheRequestedEpisode : Obligations.S3aStartsTheRequestedEpisode := by
  intro s h
  rw [step_of_schedAt h, schedStep_of_s3a (schedAt_afterTurn h)]
  refine ⟨fun request => ?_, fun none => ?_⟩
  · rw [armLatch_of_pend (by simpa using request)]
    simp [goTo, deadlineWraps, deadlineSum, delta_eq]
  · rw [armLatch_of_no_pend (by simpa using none)]
    rfl

/-- Settles O27: the comparator at or past a nonzero deadline, and everywhere else. -/
theorem s3bFiresAtOrPastTheDeadline : Obligations.S3bFiresAtOrPastTheDeadline := by
  intro s h
  rw [step_of_schedAt h, schedStep_of_s3b (schedAt_afterTurn h)]
  refine ⟨fun nonzero reached => ?_, fun waiting => ?_⟩
  · have expired : deadlineExpired s = true := (deadlineExpired_iff s).mpr ⟨nonzero, reached⟩
    rw [comparator_of_expired (by simpa using expired)]
    simp [goTo]
  · have notExpired : deadlineExpired s = false := by
      rw [Bool.eq_false_iff, Ne, deadlineExpired_iff]
      rintro ⟨nonzero, reached⟩
      exact waiting.elim nonzero reached.not_gt
    rw [comparator_of_not_expired (by simpa using notExpired)]
    rfl

/-- Settles O28: S4's micro-step, in both settings of `DEADLINE_GATED`. -/
theorem s4CancelsOnlyTheRequest : Obligations.S4CancelsOnlyTheRequest := by
  intro s h
  rw [step_of_schedAt h, schedStep_of_s4 (schedAt_afterTurn h)]
  exact ⟨fun gated => by simp [gated], fun ungated => by simp [ungated]⟩

/-! ### Micro-steps together -/

/-- Settles O30: with no delay the deadline is `NOW` itself, which fits and has been reached. -/
theorem zeroDelayGivesAPulse : Obligations.ZeroDelayGivesAPulse := by
  intro s phase request noDelay running
  have sum : deadlineSum s = s.now.toNat := by simp [deadlineSum, delta_eq, noDelay]
  have fits : deadlineWraps s = false := by
    simpa [deadlineWraps, sum] using s.now.isLt
  have episode : schedStep s = { s with
      pend := false, deadline := s.now, out := true, pinLog := s.pinLog ++ [.pin true], sph := .s3b } := by
    rw [schedStep_of_s3a phase, armLatch_of_pend request, sum, fits]
    simp [goTo]
  refine ⟨episode, ?_⟩
  rw [episode, schedStep_of_s3b rfl, comparator_of_expired ((deadlineExpired_iff _).mpr ⟨running, le_rfl⟩)]
  simp [goTo]

/-- The arm latch on a request overwrites the deadline without reading it. -/
theorem armLatch_forgets_deadline {s : State} (h : s.pend = true) (earlier : Word64) :
    armLatch { s with deadline := earlier } = armLatch s := by
  rw [armLatch_of_pend h, armLatch_of_pend (s := { s with deadline := earlier }) h]
  rfl

theorem afterTurn_with_deadline (s : State) (d : Word64) :
    afterTurn { s with deadline := d } = { afterTurn s with deadline := d } := by
  unfold afterTurn
  cases s.turns <;> rfl

/-- Settles O32: the new episode's deadline is a function of `NOW` and `DLY`, not of the deadline before. -/
theorem rearmingRestartsTheCountdown : Obligations.RearmingRestartsTheCountdown := by
  intro s h request _
  have request' : (afterTurn s).pend = true := by simpa using request
  refine ⟨⟨_, step_of_startsEpisode ⟨h, request⟩, ?_⟩, fun earlier => ?_⟩
  · rw [armLatch_of_pend request']
    simp [deadlineSum]
  · have starts : StartsEpisode { s with deadline := earlier } := ⟨h, request⟩
    rw [step_of_startsEpisode starts, step_of_startsEpisode ⟨h, request⟩, afterTurn_with_deadline,
      armLatch_forgets_deadline request']

/-- Settles O38: from S1 with the gate closed the iteration is S1, S2, S3, S4, and S4 cancels the request. -/
theorem anEarlyDisableCancelsTheRequest : Obligations.AnEarlyDisableCancelsTheRequest := by
  intro s t phase h
  obtain rfl := Host.Outcome.next.inj h
  generalize hu : ({ s with en := false } : State) = u
  have phase1 : u.sph = .s1 := hu ▸ phase
  have phase2 : (schedStep u).sph = .s2 := by rw [schedStep_sph, phase1]; rfl
  have phase3 : (schedStep (schedStep u)).sph = .s3 := by rw [schedStep_sph, phase2]; rfl
  have closed : (schedStep (schedStep u)).en = false := by rw [schedStep_en, schedStep_en, ← hu]
  have phase4 : (schedStep (schedStep (schedStep u))).sph = .s4 := by
    rw [schedStep_sph, phase3, closed]
    rfl
  obtain ⟨out1, log1, deadline1⟩ := schedStep_quiet (s := u) (by simp [phase1])
  obtain ⟨out2, log2, deadline2⟩ := schedStep_quiet (s := schedStep u) (by simp [phase2])
  obtain ⟨out3, log3, deadline3⟩ := schedStep_quiet (s := schedStep (schedStep u)) (by simp [phase3])
  obtain ⟨out4, log4, deadline4⟩ := schedStep_quiet (s := schedStep (schedStep (schedStep u))) (by simp [phase4])
  refine ⟨by rw [schedStep_of_s4 phase4], ?_, ?_, ?_⟩
  · rw [out4, out3, out2, out1, ← hu]
  · rw [log4, log3, log2, log1, ← hu]
  · rw [deadline4, deadline3, deadline2, deadline1, ← hu]

/-- DISABLE, and in ALIAS mode ON and OFF, close the gate and touch neither the request, the delay nor the sequencer. -/
theorem exec_closes_gate {i : Instr} {s t : State}
    (hi : i = .disable ∨ (s.cfg.ovrMode = .aliasEnable ∧ (i = .on ∨ i = .off))) (h : exec i s = .next t) :
    t.en = false ∧ t.pend = s.pend ∧ t.dly = s.dly := by
  obtain rfl | ⟨mode, rfl | rfl⟩ := hi <;> obtain rfl := Host.Outcome.next.inj h
  · exact ⟨rfl, rfl, rfl⟩
  · simp [mode]
  · simp [mode]

/-- Settles O37: the command closes `EN`, but the sequencer and the latched gate are not its registers, so S3A goes on. -/
theorem aLateDisableDoesNotStopTheIteration : Obligations.ALateDisableDoesNotStopTheIteration := by
  intro i s t phase gateOpen hi h
  have latched : schedStep s = { s with g := true, sph := .s3a } := by
    rw [schedStep_of_s3 phase, gateOpen]
    rfl
  rw [latched] at h
  obtain ⟨closed, pend, dly⟩ := exec_closes_gate (s := { s with g := true, sph := .s3a }) hi h
  have frame := exec_frame h
  have sph : t.sph = .s3a := (congrArg State.sph frame :)
  have sum : deadlineSum t = s.now.toNat + delta s.cfg s.dly := by
    have now : t.now = s.now := (congrArg State.now frame :)
    have cfg : t.cfg = s.cfg := (congrArg State.cfg frame :)
    rw [deadlineSum, now, cfg, dly]
  refine ⟨closed, (congrArg State.g frame :), sph, fun request => ?_⟩
  rw [schedStep_of_s3a sph, armLatch_of_pend (pend.trans request), ← sum]
  exact ⟨rfl, rfl, rfl, rfl⟩

end Sys2Proof.Machine
end

section
/-! PROOFS. Who writes the control registers, the output and the store (10_state.md R16 to R31): for each register the
steps that can change it, and the persistence of a stored delay (20_memory.md R43). -/

namespace Sys2Proof.Machine

open Sys2Proof

/-! ### Named steps, from the state whose turn is taken off -/

theorem schedAt_of {ph : Phase} {s : State} (takes : TakesTurn .sched s) (phase : (afterTurn s).sph = ph) :
    SchedAt ph s :=
  ⟨takes, (afterTurn_sph s).symm.trans phase⟩

theorem startsEpisode_of {s : State} (takes : TakesTurn .sched s) (phase : (afterTurn s).sph = .s3a)
    (request : (afterTurn s).pend = true) : StartsEpisode s :=
  ⟨schedAt_of takes phase, (afterTurn_pend s).symm.trans request⟩

theorem comparatorFires_of {s : State} (takes : TakesTurn .sched s) (phase : (afterTurn s).sph = .s3b)
    (expired : deadlineExpired (afterTurn s) = true) : ComparatorFires s :=
  ⟨schedAt_of takes phase, (deadlineExpired_afterTurn s).symm.trans expired⟩

/-! ### `EN` and `DLY` (R16, R18) -/

theorem step_en {s t : State} (h : step s = .next t) :
    t.en = s.en ∨ (t.en = true ∧ Dispatches (.command .enable) s) ∨
      (t.en = false ∧ (Dispatches (.command .disable) s ∨
        (s.cfg.ovrMode = .aliasEnable ∧ (Dispatches (.command .on) s ∨ Dispatches (.command .off) s)))) ∨
      (nextTurn s = .reset ∧ t.en = s.cfg.enReset) := by
  cases stepKind h with
  | command i u hd he =>
    obtain kept | ⟨opened, rfl⟩ | ⟨closed, rfl | ⟨mode, rfl | rfl⟩⟩ := exec_en he
    · exact .inl (kept.trans (afterTurn_en s))
    · exact .inr (.inl ⟨opened, hd⟩)
    · exact .inr (.inr (.inl ⟨closed, .inl hd⟩))
    · exact .inr (.inr (.inl ⟨closed, .inr ⟨by simpa using mode, .inl hd⟩⟩))
    · exact .inr (.inr (.inl ⟨closed, .inr ⟨by simpa using mode, .inr hd⟩⟩))
  | reset turn => exact .inr (.inr (.inr ⟨turn, by simp⟩))
  | ticker => simp [tickerStep_eq]
  | sched _ _ kind => cases kind <;> simp
  | idle | ovfsvc | discard | sersvc | rx => simp [ovfsvcStep_eq, rxStep]

theorem step_dly {s t : State} (h : step s = .next t) :
    t.dly = s.dly ∨
      (∃ arg : Option Byte, (Dispatches (.command (.setdly arg)) s ∨ Dispatches (.command (.setsave arg)) s) ∧
        t.dly = argValue arg (afterTurn s)) ∨
      (SchedAt .boot s ∧ t.dly = memRead Config.delayAddr s) ∨ nextTurn s = .reset := by
  cases stepKind h with
  | command i u hd he =>
    obtain kept | ⟨arg, rfl | rfl, written⟩ := exec_dly he
    · exact .inl (kept.trans (afterTurn_dly s))
    · exact .inr (.inl ⟨arg, .inl hd, written⟩)
    · exact .inr (.inl ⟨arg, .inr hd, written⟩)
  | sched _ takes kind =>
    cases kind with
    | boot phase => exact .inr (.inr (.inl ⟨schedAt_of takes phase, memRead_afterTurn _ s⟩))
    | snapshot | persist | nothingToPersist | gate | episode | noEpisode | fire | noFire | cancel => simp
  | reset turn => exact .inr (.inr (.inr turn))
  | ticker => simp [tickerStep_eq]
  | idle | ovfsvc | discard | sersvc | rx => simp [ovfsvcStep_eq, rxStep]

/-- Settles O39: what a step can do to `EN` and to `DLY`, less the case that nothing changed. -/
theorem onlyTheirWritersChangeGateAndDelay : Obligations.OnlyTheirWritersChangeGateAndDelay :=
  fun _ _ h => ⟨fun changed => (step_en h).resolve_left changed, fun changed => (step_dly h).resolve_left changed⟩

/-! ### `PEND` (R17) -/

theorem step_pend {s t : State} (h : step s = .next t) :
    t.pend = s.pend ∨ (t.pend = true ∧ Dispatches (.command .arm) s) ∨
      (t.pend = false ∧ (StartsEpisode s ∨ SchedAt .s4 s ∨ nextTurn s = .reset)) := by
  cases stepKind h with
  | command i u hd he =>
    have written := exec_pend he
    by_cases arm : i = .arm
    · subst arm
      exact .inr (.inl ⟨by simp [written], hd⟩)
    · exact .inl (by simp [written, arm])
  | sched _ takes kind =>
    cases kind with
    | episode phase request => exact .inr (.inr ⟨rfl, .inl (startsEpisode_of takes phase request)⟩)
    | cancel phase => exact .inr (.inr ⟨rfl, .inr (.inl (schedAt_of takes phase))⟩)
    | boot | snapshot | persist | nothingToPersist | gate | noEpisode | fire | noFire => simp
  | reset turn => exact .inr (.inr ⟨rfl, .inr (.inr turn)⟩)
  | ticker => simp [tickerStep_eq]
  | idle | ovfsvc | discard | sersvc | rx => simp [ovfsvcStep_eq, rxStep]

/-- Settles O40: a set request is ARM's, a cleared one S3A's, S4's or a reset's. -/
theorem onlyItsWritersChangeTheRequest : Obligations.OnlyItsWritersChangeTheRequest := by
  intro s t h
  obtain kept | ⟨set, arm⟩ | ⟨cleared, writer⟩ := step_pend h
  · simp +contextual [kept]
  · exact ⟨fun _ _ => arm, fun _ cleared => by simp [set] at cleared⟩
  · exact ⟨fun _ set => by simp [cleared] at set, fun _ _ => writer⟩

/-! ### `DEADLINE` (R19) -/

/-- Settles O41: S3A's arm latch and S3B's comparator are the micro-steps that write it, and no command does. -/
theorem onlyTheSchedulerWritesTheDeadline : Obligations.OnlyTheSchedulerWritesTheDeadline := by
  intro s t h changed
  cases stepKind h with
  | command i u _ he => exact absurd ((congrArg State.deadline (exec_frame he) :).trans (afterTurn_deadline s)) changed
  | sched _ takes kind =>
    cases kind with
    | episode phase request => exact .inl (startsEpisode_of takes phase request)
    | fire phase expired => exact .inr (.inl ⟨comparatorFires_of takes phase expired, rfl⟩)
    | boot | snapshot | persist | nothingToPersist | gate | noEpisode | noFire | cancel => simp at changed
  | reset turn => exact .inr (.inr ⟨turn, rfl⟩)
  | ticker => simp [tickerStep_eq] at changed
  | idle | ovfsvc | discard | sersvc | rx => simp [ovfsvcStep_eq, rxStep] at changed

/-! ### `DIRTY` and the store (R20, R29) -/

theorem step_dirty {s t : State} (h : step s = .next t) :
    t.dirty = s.dirty ∨
      (t.dirty = true ∧ (Dispatches (.command .save) s ∨ ∃ arg, Dispatches (.command (.setsave arg)) s)) ∨
      (SchedAt .s2 s ∧ s.dirty = true) ∨ nextTurn s = .reset := by
  cases stepKind h with
  | command i u hd he =>
    obtain kept | ⟨set, rfl | ⟨arg, rfl⟩⟩ := exec_dirty he
    · exact .inl (kept.trans (afterTurn_dirty s))
    · exact .inr (.inl ⟨set, .inl hd⟩)
    · exact .inr (.inl ⟨set, .inr ⟨arg, hd⟩⟩)
  | sched _ takes kind =>
    cases kind with
    | persist phase dirty => exact .inr (.inr (.inl ⟨schedAt_of takes phase, by simpa using dirty⟩))
    | boot | snapshot | nothingToPersist | gate | episode | noEpisode | fire | noFire | cancel => simp
  | reset turn => exact .inr (.inr (.inr turn))
  | ticker => simp [tickerStep_eq]
  | idle | ovfsvc | discard | sersvc | rx => simp [ovfsvcStep_eq, rxStep]

/-- S2 with a request: the write, its event, the request given up, and what the store then reads as (41_scheduler.md
R97). -/
theorem step_of_persist {s t : State} (at2 : SchedAt .s2 s) (dirty : s.dirty = true) (h : step s = .next t) :
    t.dirty = false ∧ t.store = Memory.write s.cfg.storeInit s.store 0 s.dly ∧
      t.storeLog = s.storeLog ++ [.store 0 s.dly] ∧
      (Memory.wf s.cfg.storeInit s.store = true → memRead Config.delayAddr t = s.dly) := by
  obtain ⟨u, hu, written, read⟩ := (s2WritesTheDelayOncePerRequest s at2).1 dirty
  obtain rfl : u = t := Host.Outcome.next.inj (hu.symm.trans h)
  subst written
  exact ⟨rfl, rfl, rfl, read⟩

theorem step_store_of_no_persist {s t : State} (h : step s = .next t) (no : ¬ (SchedAt .s2 s ∧ s.dirty = true)) :
    t.store = s.store ∧ t.storeLog = s.storeLog := by
  cases stepKind h with
  | command i u _ he =>
    have frame := exec_frame he
    exact ⟨(congrArg State.store frame :).trans (afterTurn_store s),
      (congrArg State.storeLog frame :).trans (afterTurn_storeLog s)⟩
  | sched _ takes kind =>
    cases kind with
    | persist phase dirty => exact absurd ⟨schedAt_of takes phase, by simpa using dirty⟩ no
    | boot | snapshot | nothingToPersist | gate | episode | noEpisode | fire | noFire | cancel => simp
  | ticker => simp [tickerStep_eq]
  | idle | ovfsvc | discard | sersvc | rx | reset => simp [ovfsvcStep_eq, rxStep]

theorem step_memRead_of_no_persist {s t : State} (h : step s = .next t) (no : ¬ (SchedAt .s2 s ∧ s.dirty = true))
    (a : StoreAddr) : memRead a t = memRead a s :=
  memRead_congr a (step_store_of_no_persist h no).1 (congrArg Config.storeInit (step_cfg h))

/-- Settles O42: what a step can do to `DIRTY`, and the write of the S2 that gives a request up. -/
theorem aPersistRequestIsKeptUntilItIsWritten : Obligations.APersistRequestIsKeptUntilItIsWritten := by
  intro s t h
  obtain kept | ⟨set, writer⟩ | ⟨at2, dirty⟩ | reset := step_dirty h
  · simp +contextual [kept]
  · exact ⟨fun _ _ => writer, fun _ cleared => by simp [set] at cleared⟩
  · obtain ⟨-, -, logged, -⟩ := step_of_persist at2 dirty h
    exact ⟨fun clean => by simp [clean] at dirty, fun _ _ => .inl ⟨at2, logged⟩⟩
  · refine ⟨fun _ set => ?_, fun _ _ => .inr reset⟩
    rw [step_of_reset reset, Host.Outcome.next.injEq] at h
    simp [← h] at set

/-- Settles O43: S2 with a request is the one step that writes the store or its trace. -/
theorem theStoreIsWrittenOnlyByTheDirtyLatch : Obligations.TheStoreIsWrittenOnlyByTheDirtyLatch := by
  intro s t h
  refine ⟨fun no => ⟨(step_store_of_no_persist h no).2, step_memRead_of_no_persist h no⟩, ?_⟩
  rintro ⟨at2, dirty⟩
  obtain ⟨-, -, logged, read⟩ := step_of_persist at2 dirty h
  exact ⟨logged, read⟩

/-- Over a run in which no step writes the store it reads the same at the end. -/
theorem memRead_of_run {r : Nat → State} {m n : Nat} (hmn : m ≤ n)
    (run : ∀ i, m ≤ i → i < n → step (r i) = .next (r (i + 1)))
    (no : ∀ i, m ≤ i → i < n → ¬ (SchedAt .s2 (r i) ∧ (r i).dirty = true)) (a : StoreAddr) :
    memRead a (r n) = memRead a (r m) := by
  induction n, hmn using Nat.le_induction with
  | base => rfl
  | succ n hmn ih =>
    have last := step_memRead_of_no_persist (run n hmn n.lt_succ_self) (no n hmn n.lt_succ_self) a
    exact last.trans (ih (fun i hi hn => run i hi (by omega)) fun i hi hn => no i hi (by omega))

/-- Settles O44: the store reads the delay after S2, keeps it up to BOOT, and BOOT loads what it reads. -/
theorem aWrittenDelaySurvivesReset : Obligations.AWrittenDelaySurvivesReset := by
  intro r n run hn at2 dirty canonical no boot
  obtain ⟨-, -, -, read⟩ := step_of_persist at2 dirty (run 0 (by omega))
  have kept : memRead Config.delayAddr (r n) = memRead Config.delayAddr (r 1) :=
    memRead_of_run hn (fun i _ hi => run i (by omega)) (fun i hi => no i hi) _
  have loaded := (run n (by omega)).symm.trans (step_of_boot boot)
  rw [Host.Outcome.next.injEq] at loaded
  rw [loaded]
  exact ⟨kept.trans (read canonical), rfl⟩

/-! ### The output and its trace (R21) -/

/-- Everything a step can do to the output: keep it, drive it with the event that says so, or reset it without one. -/
theorem step_output {s t : State} (h : step s = .next t) :
    (nextTurn s ≠ .reset ∧ t.pinLog = s.pinLog ∧ t.out = s.out) ∨
    ((Dispatches (.command .on) s ∨ StartsEpisode s) ∧ t.pinLog = s.pinLog ++ [.pin true] ∧ t.out = true) ∨
    ((Dispatches (.command .off) s ∨ ComparatorFires s) ∧ t.pinLog = s.pinLog ++ [.pin false] ∧ t.out = false) ∨
    (nextTurn s = .reset ∧ t.pinLog = s.pinLog ∧ t.out = false) := by
  cases stepKind h with
  | idle idle =>
    refine .inl ⟨fun reset => ?_, afterTurn_pinLog s, afterTurn_out s⟩
    simp [reset, turnEnabled] at idle
  | command i u hd he =>
    obtain ⟨-, -, out, log⟩ | ⟨rfl, out, log⟩ | ⟨rfl, out, log⟩ := exec_output he
    · exact .inl ⟨by simp [hd.1.1], by simpa using log, by simpa using out⟩
    · exact .inr (.inl ⟨.inl hd, by simpa using log, out⟩)
    · exact .inr (.inr (.inl ⟨.inl hd, by simpa using log, out⟩))
  | sched _ takes kind =>
    cases kind with
    | episode phase request => exact .inr (.inl ⟨.inr (startsEpisode_of takes phase request), by simp⟩)
    | fire phase expired => exact .inr (.inr (.inl ⟨.inr (comparatorFires_of takes phase expired), by simp⟩))
    | boot | snapshot | persist | nothingToPersist | gate | noEpisode | noFire | cancel => simp [takes.1]
  | reset turn => exact .inr (.inr (.inr ⟨turn, by simp⟩))
  | ticker takes => simp [tickerStep_eq, takes.1]
  | ovfsvc takes | discard takes | sersvc takes | rx p takes => simp [ovfsvcStep_eq, rxStep, takes.1]

theorem dispatches_not_reset {cls : DecodeClass} {s : State} (h : Dispatches cls s) : nextTurn s ≠ .reset := by
  simp [h.1.1]

theorem schedAt_not_reset {ph : Phase} {s : State} (h : SchedAt ph s) : nextTurn s ≠ .reset := by
  simp [h.1.1]

/-- Settles O34: every change of the latch but reset's comes with its event. -/
theorem theOutputFollowsThePinTrace : Obligations.TheOutputFollowsThePinTrace := by
  intro s t h
  obtain ⟨noReset, kept⟩ | ⟨cause, driven⟩ | ⟨cause, driven⟩ | ⟨reset, cleared⟩ := step_output h
  · exact ⟨fun _ => .inl kept, fun reset => absurd reset noReset⟩
  · refine ⟨fun _ => .inr ⟨true, driven⟩, fun reset => absurd reset ?_⟩
    exact cause.elim dispatches_not_reset fun starts => schedAt_not_reset starts.1
  · refine ⟨fun _ => .inr ⟨false, driven⟩, fun reset => absurd reset ?_⟩
    exact cause.elim dispatches_not_reset fun fires => schedAt_not_reset fires.1
  · exact ⟨fun noReset => absurd reset noReset, fun _ => cleared⟩

theorem step_of_dispatches_on {s t : State} (hd : Dispatches (.command .on) s) (h : step s = .next t) :
    t.pinLog = s.pinLog ++ [.pin true] := by
  rw [step_of_dispatches hd] at h
  obtain rfl := Host.Outcome.next.inj h
  simp

theorem pinLog_of_startsEpisode {s t : State} (starts : StartsEpisode s) (h : step s = .next t) :
    t.pinLog = s.pinLog ++ [.pin true] := by
  have request : (afterTurn s).pend = true := (afterTurn_pend s).trans starts.2
  rw [step_of_startsEpisode starts, armLatch_of_pend request] at h
  obtain rfl := Host.Outcome.next.inj h
  simp

/-- Settles O33: the two steps that append `PinWrite(1)`, and under the invariant S3A has found the gate open. -/
theorem onlyOnOrAnEpisodeAssertsTheOutput : Obligations.OnlyOnOrAnEpisodeAssertsTheOutput := by
  intro s t inv h
  have gate (starts : StartsEpisode s) : StartsEpisode s ∧ s.g = true ∧ s.pend = true :=
    ⟨starts, inv.gate_open starts.1.2, starts.2⟩
  refine ⟨⟨fun asserted => ?_, ?_⟩, fun low high => ?_⟩
  · obtain ⟨-, log, -⟩ | ⟨cause, -⟩ | ⟨-, log, -⟩ | ⟨-, log, -⟩ := step_output h
    · simp [log] at asserted
    · exact cause.imp_right gate
    · simp [log] at asserted
    · simp [log] at asserted
  · rintro (on | ⟨starts, -⟩)
    · exact step_of_dispatches_on on h
    · exact pinLog_of_startsEpisode starts h
  · obtain ⟨-, -, out⟩ | ⟨cause, -⟩ | ⟨-, -, out⟩ | ⟨-, -, out⟩ := step_output h
    · simp [out, low] at high
    · exact cause.imp_right gate
    · simp [out] at high
    · simp [out] at high

end Sys2Proof.Machine
end

section
/-! PROOFS. The invariant (`Inv`): it holds at reset, and every step keeps each of its clauses. -/

namespace Sys2Proof.Machine

open Sys2Proof

/-! ### Clause by clause -/

/-- The tick keeps to [0, TPO) (10_state.md R22). -/
theorem tickerStep_tick_lt {s : State} (hs : s.tick < s.cfg.tpo) : (tickerStep s).tick < s.cfg.tpo := by
  by_cases counts : s.tick + 1 < s.cfg.tpo
  · rw [tickerStep_of_counts counts]
    exact counts
  · rw [tickerStep_of_wraps counts]
    exact Nat.zero_lt_of_lt hs

theorem step_keeps_tick_lt {s t : State} (h : step s = .next t) (hs : s.tick < s.cfg.tpo) : t.tick < t.cfg.tpo := by
  rw [step_cfg h]
  cases stepKind h with
  | ticker => simpa using tickerStep_tick_lt (s := afterTurn s) (by simpa using hs)
  | reset => simpa using resetStep_tick_lt (s := afterTurn s) (by simpa using Nat.one_le_of_lt hs)
  | command i u _ he => exact (congrArg State.tick (exec_frame he) :).trans (afterTurn_tick s) ▸ hs
  | sched _ _ kind => cases kind <;> simpa using hs
  | idle | ovfsvc | discard | sersvc | rx => simpa [ovfsvcStep_eq, rxStep] using hs

/-- A packet in the buffer is one the transceiver delivers (30_encoding.md R57). -/
theorem step_keeps_packet_fits {s t : State} (h : step s = .next t)
    (hs : ∀ p, s.rxBuf = some p → p.len ≤ s.cfg.maxPayload) : ∀ p, t.rxBuf = some p → p.len ≤ t.cfg.maxPayload := by
  rw [step_cfg h]
  cases stepKind h with
  | rx p takes =>
    have fits : p.len ≤ s.cfg.maxPayload := by
      have enabled := takes.2
      simp only [turnEnabled, rxEnabled, Bool.and_eq_true, decide_eq_true_eq] at enabled
      exact enabled.2
    intro q hq
    obtain rfl : p = q := Option.some.inj hq
    exact fits
  | command | discard | reset => simp
  | ticker => simpa [tickerStep_eq] using hs
  | sched _ _ kind => cases kind <;> simpa using hs
  | idle | ovfsvc | sersvc => simpa [ovfsvcStep_eq] using hs

/-- `OVR` is only ever written to 0 (10_state.md R30). -/
theorem step_keeps_ovr {s t : State} (h : step s = .next t) (hs : s.ovr = false) : t.ovr = false := by
  cases stepKind h with
  | command i u _ he => exact (flush_ovr u).trans (exec_ovr he (by simpa using hs))
  | ticker => simpa [tickerStep_eq] using hs
  | sched _ _ kind => cases kind <;> simpa using hs
  | idle | ovfsvc | discard | sersvc | rx | reset => simp [ovfsvcStep_eq, rxStep, hs]

theorem lastStored_congr {s t : State} (hlog : t.storeLog = s.storeLog) (hcfg : t.cfg = s.cfg) :
    lastStored t = lastStored s := by
  rw [lastStored, lastStored, hlog, hcfg]

/-- The store stays in canonical form, and reads as the last write in its trace (20_memory.md R43). -/
theorem step_keeps_store {s t : State} (h : step s = .next t) (canonical : Memory.wf s.cfg.storeInit s.store = true)
    (last : memRead Config.delayAddr s = lastStored s) :
    Memory.wf t.cfg.storeInit t.store = true ∧ memRead Config.delayAddr t = lastStored t := by
  by_cases persist : SchedAt .s2 s ∧ s.dirty = true
  · obtain ⟨-, store, log, read⟩ := step_of_persist persist.1 persist.2 h
    refine ⟨?_, (read canonical).trans (lastStored_of_last_write log).symm⟩
    rw [step_cfg h, store]
    exact memWrite_wf Config.delayAddr s.dly s canonical
  · obtain ⟨store, log⟩ := step_store_of_no_persist h persist
    refine ⟨by rwa [step_cfg h, store], ?_⟩
    rw [step_memRead_of_no_persist h persist, last, lastStored_congr log (step_cfg h)]

/-- A micro-step reaches S3A, S4 and S3B only as the latched gate allows (41_scheduler.md R98, R101, R103). -/
theorem schedKind_gate {s t : State} (kind : SchedKind s t) (gateOpen : s.sph = .s3a → s.g = true) :
    (t.sph = .s3a → t.g = true) ∧ (t.sph = .s4 → t.g = false) ∧
      (t.sph = .s3b → t.g = true ∨ t.cfg.deadlineGated = false) := by
  cases kind with
  | gate => cases s.en <;> simp
  | episode phase | noEpisode phase => simp [gateOpen phase]
  | cancel => cases s.cfg.deadlineGated <;> simp
  | boot | snapshot | persist | nothingToPersist | fire | noFire => simp

theorem step_keeps_gate {s t : State} (inv : Inv s) (h : step s = .next t) :
    (t.sph = .s3a → t.g = true) ∧ (t.sph = .s4 → t.g = false) ∧
      (t.sph = .s3b → t.g = true ∨ t.cfg.deadlineGated = false) := by
  by_cases sched : nextTurn s = .sched
  · rw [step_of_takesTurn ⟨sched, rfl⟩] at h
    obtain rfl := Host.Outcome.next.inj h
    exact schedKind_gate (schedKind _) (by simpa using inv.gate_open)
  · by_cases reset : nextTurn s = .reset
    · rw [step_of_reset reset] at h
      obtain rfl := Host.Outcome.next.inj h
      simp
    · obtain ⟨sph, -, g⟩ := handlersLeaveTheSequencerAlone s t h sched reset
      rw [sph, g, step_cfg h]
      exact ⟨inv.gate_open, inv.gate_closed, inv.comparator_gated⟩

/-! ### The obligations -/

/-- Settles O57: every clause is kept by every step. -/
theorem everyStepKeepsTheInvariant : Obligations.EveryStepKeepsTheInvariant := by
  intro s t inv h
  obtain ⟨store_wf, store_last⟩ := step_keeps_store h inv.store_wf inv.store_last
  obtain ⟨gate_open, gate_closed, comparator_gated⟩ := step_keeps_gate inv h
  exact {
    params := step_cfg h ▸ inv.params
    tick_lt := step_keeps_tick_lt h inv.tick_lt
    packet_fits := step_keeps_packet_fits h inv.packet_fits
    store_wf, store_last, gate_open, gate_closed, comparator_gated
    ovr_zero := step_keeps_ovr h inv.ovr_zero }

theorem reset_params : State.reset.cfg.WF := by
  simp [State.reset, Config.node, Config.WF]

theorem reset_tick_lt : State.reset.tick < State.reset.cfg.tpo :=
  tickReset_lt reset_params.1 0

/-- Settles O56: at reset the parameters and `TICK` are in range, the buffer and the store are empty and `SPH` is at
BOOT. -/
theorem theInvariantHoldsAtReset : Obligations.TheInvariantHoldsAtReset where
  params := reset_params
  tick_lt := reset_tick_lt
  packet_fits := nofun
  store_wf := reset_store_wf
  store_last := rfl
  gate_open := nofun
  gate_closed := nofun
  comparator_gated := nofun
  ovr_zero := rfl

/-- Settles O55: the values of `State.reset` field by field; `TICK` is a draw below `TPO`. -/
theorem theResetStateHoldsTheSpecValues : Obligations.TheResetStateHoldsTheSpecValues :=
  ⟨rfl, rfl, rfl, rfl, rfl, rfl, rfl, rfl, rfl, reset_tick_lt, rfl, rfl, rfl, ⟨rfl, rfl, rfl⟩, rfl, rfl, rfl⟩

end Sys2Proof.Machine
end

section
/-! PROOFS. The fault bits and the combined count (60_exceptions.md R128, R136, 42_cycle_clock.md R116 to R124): which step
sets which bit, what each step does to the count, and the count of a run. -/

namespace Sys2Proof.Machine

open Sys2Proof

/-! ### The clock faults (R115, R116) -/

theorem overflowLost_iff (s : State) : overflowLost s = true ↔ ¬ s.tick + 1 < s.cfg.tpo ∧ s.ovfPend = true := by
  rw [overflowLost, Bool.and_eq_true, tickWraps_iff]

theorem step_next_of_ticker {s t : State} (takes : TakesTurn .ticker s) (h : step s = .next t) :
    t = tickerStep (afterTurn s) :=
  (Host.Outcome.next.inj ((step_of_ticker takes).symm.trans h)).symm

theorem fOvfLost_of_ticker {s t : State} (takes : TakesTurn .ticker s) (h : step s = .next t) :
    t.fOvfLost = (s.fOvfLost || overflowLost s) := by
  rw [step_next_of_ticker takes h, tickerStep_eq]
  simp

/-- The exhaustion test is on the count that the tick leaves. -/
theorem fClockWrap_of_ticker {s t : State} (takes : TakesTurn .ticker s) (h : step s = .next t) :
    t.fClockWrap = (s.fClockWrap || decide (2 ^ 64 ≤ combinedCount t)) := by
  rw [step_next_of_ticker takes h, combinedCount_tickerStep, tickerStep_eq, clockExhausted, afterTurn_fClockWrap]

theorem step_clockFaults_of_not_ticker {s t : State} (h : step s = .next t) (other : ¬ TakesTurn .ticker s) :
    t.fOvfLost = s.fOvfLost ∧ t.fClockWrap = s.fClockWrap := by
  cases stepKind h with
  | ticker takes => exact absurd takes other
  | command i u _ he =>
    obtain ⟨lost, wrap, -⟩ := exec_faults he
    exact ⟨lost.trans (afterTurn_fOvfLost s), wrap.trans (afterTurn_fClockWrap s)⟩
  | sched _ _ kind => cases kind <;> simp
  | idle | ovfsvc | discard | sersvc | rx | reset => simp [ovfsvcStep_eq, rxStep]

/-! ### The deadline fault (41_scheduler.md R99) -/

theorem step_fDeadlineWrap_of_no_episode {s t : State} (h : step s = .next t) (no : ¬ StartsEpisode s) :
    t.fDeadlineWrap = s.fDeadlineWrap := by
  cases stepKind h with
  | command i u _ he =>
    obtain ⟨-, -, wrap⟩ := exec_faults he
    exact wrap.trans (afterTurn_fDeadlineWrap s)
  | sched _ takes kind =>
    cases kind with
    | episode phase request => exact absurd (startsEpisode_of takes phase request) no
    | boot | snapshot | persist | nothingToPersist | gate | noEpisode | fire | noFire | cancel => simp
  | ticker => simp [tickerStep_eq]
  | idle | ovfsvc | discard | sersvc | rx | reset => simp [ovfsvcStep_eq, rxStep]

theorem startsEpisode_not_ticker {s : State} (starts : StartsEpisode s) : ¬ TakesTurn .ticker s :=
  fun takes => absurd (takes.turn_eq starts.1.1) (by decide)

/-- Settles O52: a tick sets the two clock faults by its own tests, S3A's episode the deadline fault, and each bit is
otherwise as it was. -/
theorem faultBitsHaveExactlyTheirCauses : Obligations.FaultBitsHaveExactlyTheirCauses := by
  intro s t h
  refine ⟨?_, ?_, ?_⟩
  · by_cases takes : TakesTurn .ticker s
    · rw [fOvfLost_of_ticker takes h, Bool.or_eq_true, overflowLost_iff]
      simp only [takes, true_and]
    · simp [step_clockFaults_of_not_ticker h takes, takes]
  · by_cases takes : TakesTurn .ticker s
    · simp [fClockWrap_of_ticker takes h, takes]
    · simp [step_clockFaults_of_not_ticker h takes, takes]
  · by_cases starts : StartsEpisode s
    · rw [fDeadlineWrap_of_startsEpisode starts h, Bool.or_eq_true, deadlineWraps_iff, deadlineSum, delta_eq]
      simp only [starts, true_and]
    · simp [step_fDeadlineWrap_of_no_episode h starts, starts]

/-- Settles O53: a bit newly set has its cause in this step; the tick that wraps on a pending overflow past the 64-bit
clock meets the causes of both clock faults; an episode is no tick. -/
theorem onlyATickRaisesTwoFaults : Obligations.OnlyATickRaisesTwoFaults := by
  refine ⟨fun s t h newly => ?_, fun s takes wraps pending exhausted => ?_, fun s t h clear set => ?_⟩
  · obtain ⟨lost, wrap, -⟩ := faultBitsHaveExactlyTheirCauses s t h
    obtain ⟨clear, set⟩ | ⟨clear, set⟩ := newly
    · exact ((lost.mp set).resolve_left (by simp [clear])).1
    · exact ((wrap.mp set).resolve_left (by simp [clear])).1
  · have count : 2 ^ 64 ≤ combinedCount (tickerStep (afterTurn s)) := by
      rw [tickerStep_of_wraps (by simpa using wraps)]
      simpa [combinedCount] using exhausted
    obtain ⟨lost, wrap, -⟩ := faultBitsHaveExactlyTheirCauses s _ (step_of_ticker takes)
    exact ⟨_, step_of_ticker takes, lost.mpr (.inr ⟨takes, wraps, pending⟩), wrap.mpr (.inr ⟨takes, count⟩), count⟩
  · have starts : StartsEpisode s := by
      by_contra no
      simp [step_fDeadlineWrap_of_no_episode h no, clear] at set
    exact step_clockFaults_of_not_ticker h (startsEpisode_not_ticker starts)

/-! ### What a step does to the combined count (R120) -/

/-- A tick that loses no overflow counts one, also where it wraps. -/
theorem combinedCount_tickerStep_of_kept {s : State} (tick_lt : s.tick < s.cfg.tpo) (kept : overflowLost s = false) :
    combinedCount (tickerStep s) = combinedCount s + 1 := by
  rw [combinedCount_tickerStep, combinedCount_countTick, combinedCount]
  cases wraps : tickWraps s with
  | false => simp [Nat.add_assoc]
  | true =>
    have free : s.ovfPend = false := by simpa [overflowLost, wraps] using kept
    have last : s.cfg.tpo = s.tick + 1 := by
      have := (tickWraps_iff s).mp wraps
      omega
    simp [free, last, Nat.add_mul, Nat.add_assoc]

theorem combinedCount_ovfsvcStep_eq (s : State) :
    combinedCount (ovfsvcStep s) = (s.ovf.toNat + 1) % 2 ^ 64 * s.cfg.tpo + s.tick := by
  simp [combinedCount, ovfsvcStep_eq]

theorem combinedCount_of_pending {s : State} (pending : s.ovfPend = true) :
    combinedCount s = (s.ovf.toNat + 1) * s.cfg.tpo + s.tick := by
  simp [combinedCount, pending]

/-- The handler moves the pending overflow into the counter, where the counter has room for it. -/
theorem combinedCount_ovfsvcStep {s : State} (pending : s.ovfPend = true) (room : s.ovf.toNat + 1 < 2 ^ 64) :
    combinedCount (ovfsvcStep s) = combinedCount s := by
  rw [combinedCount_ovfsvcStep_eq, combinedCount_of_pending pending, Nat.mod_eq_of_lt room]

theorem combinedCount_ovfsvcStep_le {s : State} (pending : s.ovfPend = true) :
    combinedCount (ovfsvcStep s) ≤ combinedCount s := by
  rw [combinedCount_ovfsvcStep_eq, combinedCount_of_pending pending]
  gcongr
  exact Nat.mod_le _ _

/-- A count below 2^64 with an overflow pending leaves room in `OVF`. -/
theorem ovf_room {s : State} (modulus : 1 ≤ s.cfg.tpo) (pending : s.ovfPend = true) (fits : combinedCount s < 2 ^ 64) :
    s.ovf.toNat + 1 < 2 ^ 64 :=
  calc s.ovf.toNat + 1 ≤ (s.ovf.toNat + 1) * s.cfg.tpo := Nat.le_mul_of_pos_right _ modulus
    _ ≤ combinedCount s := combinedCount_of_pending pending ▸ Nat.le_add_right _ _
    _ < 2 ^ 64 := fits

theorem pending_of_takesTurn_ovfsvc {s : State} (takes : TakesTurn .ovfsvc s) : s.ovfPend = true :=
  ((turnEnabled_ovfsvc_iff s).mp takes.2).1

theorem step_next_of_ovfsvc {s t : State} (takes : TakesTurn .ovfsvc s) (h : step s = .next t) :
    t = ovfsvcStep (afterTurn s) :=
  (Host.Outcome.next.inj ((step_of_takesTurn takes).symm.trans h)).symm

theorem step_counter_of_others {s t : State} (h : step s = .next t) (noReset : nextTurn s ≠ .reset)
    (noTick : ¬ TakesTurn .ticker s) (noService : ¬ TakesTurn .ovfsvc s) :
    t.tick = s.tick ∧ t.ovf = s.ovf ∧ t.ovfPend = s.ovfPend := by
  cases stepKind h with
  | ticker takes => exact absurd takes noTick
  | ovfsvc takes => exact absurd takes noService
  | reset turn => exact absurd turn noReset
  | command i u _ he =>
    have frame := exec_frame he
    exact ⟨(congrArg State.tick frame :).trans (afterTurn_tick s), (congrArg State.ovf frame :).trans (afterTurn_ovf s),
      (congrArg State.ovfPend frame :).trans (afterTurn_ovfPend s)⟩
  | sched _ _ kind => cases kind <;> simp
  | idle | discard | sersvc | rx => simp [rxStep]

theorem combinedCount_of_others {s t : State} (h : step s = .next t) (noReset : nextTurn s ≠ .reset)
    (noTick : ¬ TakesTurn .ticker s) (noService : ¬ TakesTurn .ovfsvc s) : combinedCount t = combinedCount s := by
  obtain ⟨tick, ovf, ovfPend⟩ := step_counter_of_others h noReset noTick noService
  rw [combinedCount, combinedCount, tick, ovf, ovfPend, step_cfg h]

theorem combinedCount_of_tick {s t : State} (takes : TakesTurn .ticker s) (h : step s = .next t)
    (tick_lt : s.tick < s.cfg.tpo) (kept : overflowLost s = false) : combinedCount t = combinedCount s + 1 := by
  rw [step_next_of_ticker takes h,
    combinedCount_tickerStep_of_kept (by simpa using tick_lt) (by simpa using kept), combinedCount_afterTurn]

theorem combinedCount_of_service {s t : State} (takes : TakesTurn .ovfsvc s) (h : step s = .next t)
    (modulus : 1 ≤ s.cfg.tpo) (fits : combinedCount s < 2 ^ 64) : combinedCount t = combinedCount s := by
  have pending := pending_of_takesTurn_ovfsvc takes
  have room := ovf_room modulus pending fits
  rw [step_next_of_ovfsvc takes h,
    combinedCount_ovfsvcStep (by simpa using pending) (by simpa using room), combinedCount_afterTurn]

/-- Settles O48: the handler's step from the state whose turn is taken off, and the count it keeps. -/
theorem theOverflowHandlerCountsTheOverflow : Obligations.TheOverflowHandlerCountsTheOverflow := by
  intro s takes
  refine ⟨?_, combinedCount_ovfsvcStep (pending_of_takesTurn_ovfsvc takes)⟩
  rw [step_of_takesTurn takes, performTurn, ovfsvcStep_eq, afterTurn_ovf]

/-! ### The count until its fault (R116, R124) -/

theorem combinedCount_resetStep (s : State) : combinedCount (resetStep s) = (resetStep s).tick := by
  simp [combinedCount]

/-- Settles O51: a tick past 2^64 sets the fault, and no other step raises the count but a reset, which starts it below
`TPO`. -/
theorem theClockFitsUntilItsFault : Obligations.TheClockFitsUntilItsFault := by
  intro s t h tick_lt modulus fits
  have tick_lt' := step_keeps_tick_lt h tick_lt
  refine ⟨tick_lt', by rwa [step_cfg h], fun clear => ?_⟩
  by_cases reset : nextTurn s = .reset
  · have count : combinedCount t = t.tick := by
      rw [step_of_reset reset] at h
      obtain rfl := Host.Outcome.next.inj h
      exact combinedCount_resetStep _
    rw [step_cfg h] at tick_lt'
    omega
  by_cases tick : TakesTurn .ticker s
  · rw [fClockWrap_of_ticker tick h, Bool.or_eq_false_iff, decide_eq_false_iff_not] at clear
    omega
  have below : combinedCount s < 2 ^ 64 := fits ((step_clockFaults_of_not_ticker h tick).2.symm.trans clear)
  by_cases service : TakesTurn .ovfsvc s
  · have pending := pending_of_takesTurn_ovfsvc service
    rw [step_next_of_ovfsvc service h]
    have le := combinedCount_ovfsvcStep_le (s := afterTurn s) (by simpa using pending)
    rw [combinedCount_afterTurn] at le
    omega
  · rwa [combinedCount_of_others h reset tick service]

/-! ### The count of a run (R120) -/

theorem IsRun.mono {r : Nat → State} {m n : Nat} (run : IsRun r n) (hmn : m ≤ n) : IsRun r m :=
  fun i hi => run i (hi.trans_le hmn)

theorem NoReset.mono {r : Nat → State} {m n : Nat} (noReset : NoReset r n) (hmn : m ≤ n) : NoReset r m :=
  fun i hi => noReset i (hi.trans_le hmn)

/-- No step clears a clock fault, so a step that ends without one begins without one. -/
theorem clockFaults_clear_before {s t : State} (h : step s = .next t) (lost : t.fOvfLost = false)
    (wrap : t.fClockWrap = false) : s.fOvfLost = false ∧ s.fClockWrap = false := by
  obtain ⟨lostCauses, wrapCauses, -⟩ := faultBitsHaveExactlyTheirCauses s t h
  constructor
  · by_contra set
    simp [lostCauses.mpr (.inl (by simpa using set))] at lost
  · by_contra set
    simp [wrapCauses.mpr (.inl (by simpa using set))] at wrap

theorem clockFaults_clear_in_run {r : Nat → State} {m n : Nat} (hmn : m ≤ n) (run : IsRun r n)
    (lost : (r n).fOvfLost = false) (wrap : (r n).fClockWrap = false) :
    (r m).fOvfLost = false ∧ (r m).fClockWrap = false := by
  induction n, hmn using Nat.le_induction with
  | base => exact ⟨lost, wrap⟩
  | succ n hmn ih =>
    obtain ⟨lost', wrap'⟩ := clockFaults_clear_before (run n n.lt_succ_self) lost wrap
    exact ih (run.mono n.le_succ) lost' wrap'

/-- A step of one lifetime that ends with no clock fault counts one for a tick and nothing otherwise, and stays below
2^64. -/
theorem combinedCount_of_step {s t : State} (h : step s = .next t) (noReset : nextTurn s ≠ .reset)
    (tick_lt : s.tick < s.cfg.tpo) (fits : combinedCount s < 2 ^ 64) (lost : t.fOvfLost = false)
    (wrap : t.fClockWrap = false) :
    combinedCount t = combinedCount s + (if nextTurn s = .ticker ∧ turnEnabled .ticker s = true then 1 else 0) ∧
      combinedCount t < 2 ^ 64 := by
  by_cases tick : nextTurn s = .ticker ∧ turnEnabled .ticker s = true
  · rw [fOvfLost_of_ticker tick h, Bool.or_eq_false_iff] at lost
    rw [fClockWrap_of_ticker tick h, Bool.or_eq_false_iff, decide_eq_false_iff_not, not_le] at wrap
    rw [if_pos tick]
    exact ⟨combinedCount_of_tick tick h tick_lt lost.2, wrap.2⟩
  · have same : combinedCount t = combinedCount s := by
      by_cases service : TakesTurn .ovfsvc s
      · exact combinedCount_of_service service h (Nat.one_le_of_lt tick_lt) fits
      · exact combinedCount_of_others h noReset tick service
    rw [if_neg tick, same]
    exact ⟨rfl, fits⟩

theorem combinedCount_of_run {r : Nat → State} {n : Nat} (run : IsRun r n) (noReset : NoReset r n)
    (tick_lt : (r 0).tick < (r 0).cfg.tpo) (fits : combinedCount (r 0) < 2 ^ 64) (lost : (r n).fOvfLost = false)
    (wrap : (r n).fClockWrap = false) :
    (r n).tick < (r n).cfg.tpo ∧ combinedCount (r n) < 2 ^ 64 ∧
      combinedCount (r n) = combinedCount (r 0) + stepsOf .ticker r n := by
  induction n with
  | zero => exact ⟨tick_lt, fits, rfl⟩
  | succ n ih =>
    have last := run n n.lt_succ_self
    obtain ⟨lost', wrap'⟩ := clockFaults_clear_before last lost wrap
    obtain ⟨tick_lt', fits', count⟩ := ih (run.mono n.le_succ) (noReset.mono n.le_succ) lost' wrap'
    obtain ⟨count', fits''⟩ := combinedCount_of_step last (noReset n n.lt_succ_self) tick_lt' fits' lost wrap
    exact ⟨step_keeps_tick_lt last tick_lt', fits'', by rw [count', count, stepsOf, Nat.add_assoc]⟩

theorem toNat_clockRead_of_fits {s : State} (fits : combinedCount s < 2 ^ 64) :
    (clockRead s).toNat = combinedCount s :=
  (toNat_clockRead s).trans (Nat.mod_eq_of_lt fits)

/-- Settles O50: what a tick, the handler and every other step do to the count, and the sum of that over a run, where the
snapshot is the count itself. -/
theorem theClockAdvancesByOnePerTick : Obligations.TheClockAdvancesByOnePerTick := by
  refine ⟨fun s t h noReset => ⟨fun takes tick_lt kept => combinedCount_of_tick takes h tick_lt kept,
    fun takes modulus fits => combinedCount_of_service takes h modulus fits, step_counter_of_others h noReset⟩, ?_⟩
  intro r n run noReset tick_lt fits lost wrap
  obtain ⟨-, fits', count⟩ := combinedCount_of_run run noReset tick_lt fits lost wrap
  rw [toNat_clockRead_of_fits fits', toNat_clockRead_of_fits fits]
  exact ⟨count, count ▸ Nat.le_add_right _ _⟩

end Sys2Proof.Machine
end

section
/-! PROOFS. The countdown over a run (41_scheduler.md R105, R107, R108): an output with no off job stays asserted, one
deadline gives one firing, and an expired deadline fires within nine micro-steps. -/

namespace Sys2Proof.Machine

open Sys2Proof

/-! ### A computed deadline of 0 (R105) -/

theorem computedDeadline_eq_zero {s : State} (h : deadlineSum s % 2 ^ 64 = 0) : BitVec.ofNat 64 (deadlineSum s) = 0 :=
  BitVec.eq_of_toNat_eq ((BitVec.toNat_ofNat _ _).trans h)

/-- A sum that leaves nothing after the reduction has wrapped unless it is 0 itself. -/
theorem deadlineWraps_of_computed_zero {s : State} (h : deadlineSum s % 2 ^ 64 = 0) :
    deadlineWraps s = decide (deadlineSum s ≠ 0) := by
  rw [deadlineWraps, decide_eq_decide]
  omega

theorem not_comparatorFires_of_no_deadline {s : State} (h : s.deadline = 0) : ¬ ComparatorFires s := by
  rintro ⟨-, expired⟩
  simp [deadlineExpired_of_no_deadline h] at expired

theorem not_startsEpisode_of_no_request {s : State} (h : s.pend = false) : ¬ StartsEpisode s := by
  rintro ⟨-, request⟩
  simp [h] at request

/-- Asserted with no off job and no request: no step but OFF, ARM or a reset ends this. -/
def StaysAsserted (s : State) : Prop := s.out = true ∧ s.deadline = 0 ∧ s.pend = false

theorem StaysAsserted.step {s t : State} (hs : StaysAsserted s) (h : step s = .next t) (noReset : nextTurn s ≠ .reset)
    (noOff : ¬ Dispatches (.command .off) s) (noArm : ¬ Dispatches (.command .arm) s) : StaysAsserted t := by
  obtain ⟨high, noDeadline, noRequest⟩ := hs
  have noFire := not_comparatorFires_of_no_deadline noDeadline
  refine ⟨?_, ?_, ?_⟩
  · obtain ⟨-, -, kept⟩ | ⟨-, -, driven⟩ | ⟨off | fires, -⟩ | ⟨reset, -⟩ := step_output h
    · exact kept.trans high
    · exact driven
    · exact absurd off noOff
    · exact absurd fires noFire
    · exact absurd reset noReset
  · by_contra changed
    obtain starts | ⟨-, zero⟩ | ⟨-, zero⟩ := onlyTheSchedulerWritesTheDeadline s t h (by rwa [noDeadline])
    · exact not_startsEpisode_of_no_request noRequest starts
    · exact changed zero
    · exact changed zero
  · obtain kept | ⟨-, arm⟩ | ⟨cleared, -⟩ := step_pend h
    · exact kept.trans noRequest
    · exact absurd arm noArm
    · exact cleared

theorem StaysAsserted.run {r : Nat → State} {n : Nat} (run : IsRun r n) (noReset : NoReset r n)
    (hs : StaysAsserted (r 0))
    (quiet : ∀ i, i < n → ¬ Dispatches (.command .off) (r i) ∧ ¬ Dispatches (.command .arm) (r i)) :
    StaysAsserted (r n) := by
  induction n with
  | zero => exact hs
  | succ n ih =>
    obtain ⟨noOff, noArm⟩ := quiet n n.lt_succ_self
    have before := ih (run.mono n.le_succ) (noReset.mono n.le_succ) fun i hi => quiet i (hi.trans n.lt_succ_self)
    exact before.step (run n n.lt_succ_self) (noReset n n.lt_succ_self) noOff noArm

/-- Settles O31: the arm latch stores 0, which the comparator passes over, and every later step keeps that so. -/
theorem aComputedDeadlineOfZeroNeverFires : Obligations.AComputedDeadlineOfZeroNeverFires := by
  refine ⟨fun s phase request zero => ?_, fun r n run noReset high noDeadline noRequest quiet => ?_⟩
  · have episode : schedStep s = goTo .s3b (armLatch s) := schedStep_of_s3a phase
    rw [armLatch_of_pend request] at episode
    have deadline : (schedStep s).deadline = 0 := by
      rw [episode]
      exact computedDeadline_eq_zero zero
    have wrap : (schedStep s).fDeadlineWrap = (s.fDeadlineWrap || deadlineWraps s) := by rw [episode]; rfl
    refine ⟨deadline, by rw [episode]; rfl, by rw [episode]; rfl, ?_, ?_⟩
    · rw [wrap, deadlineWraps_of_computed_zero zero]
      rfl
    · have phase' : (schedStep s).sph = .s3b := by rw [episode]; rfl
      rw [schedStep_of_s3b phase', comparator_of_not_expired (deadlineExpired_of_no_deadline deadline)]
      rfl
  · obtain ⟨high', noDeadline', -⟩ := StaysAsserted.run run noReset ⟨high, noDeadline, noRequest⟩ quiet
    exact ⟨high', noDeadline'⟩

/-! ### One firing for one deadline (R107) -/

theorem step_of_comparatorFires {s t : State} (fires : ComparatorFires s) (h : step s = .next t) :
    t.deadline = 0 ∧ t.out = false ∧ t.pinLog = s.pinLog ++ [.pin false] := by
  obtain ⟨at3b, expired⟩ := fires
  obtain ⟨nonzero, reached⟩ := (deadlineExpired_iff s).mp expired
  have fired := (s3bFiresAtOrPastTheDeadline s at3b).1 nonzero reached
  obtain rfl := Host.Outcome.next.inj (fired.symm.trans h)
  exact ⟨rfl, rfl, rfl⟩

/-- A property that holds at one step and no longer at a later one is lost by a step between them. -/
theorem exists_step_of_change {P : Nat → Prop} {a b : Nat} (hab : a ≤ b) (ha : P a) (hb : ¬ P b) :
    ∃ k, a ≤ k ∧ k < b ∧ P k ∧ ¬ P (k + 1) := by
  induction b, hab using Nat.le_induction with
  | base => exact absurd ha hb
  | succ b hab ih =>
    by_cases before : P b
    · exact ⟨b, hab, b.lt_succ_self, before, hb⟩
    · obtain ⟨k, hak, hkb, change⟩ := ih before
      exact ⟨k, hak, hkb.trans b.lt_succ_self, change⟩

/-- Settles O35: a firing leaves no deadline and needs one, and only the start of an episode sets one. -/
theorem theComparatorNeverFiresTwiceForOneDeadline : Obligations.TheComparatorNeverFiresTwiceForOneDeadline := by
  intro r n run i hi fires
  have fired := step_of_comparatorFires fires (run i hi)
  refine ⟨fired, fun j hij hjn again => ?_⟩
  have needed : (r j).deadline ≠ 0 := ((deadlineExpired_iff _).mp again.2).1
  obtain ⟨k, hik, hkj, none, set⟩ :=
    exists_step_of_change (P := fun k => (r k).deadline = 0) (Nat.succ_le_of_lt hij) fired.1 needed
  refine ⟨k, hik, hkj, ?_, set⟩
  obtain starts | ⟨-, zero⟩ | ⟨-, zero⟩ :=
    onlyTheSchedulerWritesTheDeadline _ _ (run k (hkj.trans hjn)) (fun same => set (same.trans none))
  · exact starts
  · exact absurd zero set
  · exact absurd zero set

/-! ### An expired deadline fires (R108) -/

/-- How many micro-steps of SCHED, with the gate open and nothing requested, lead to a firing: from phase `ph` with a
`NOW` that has reached the deadline or has not. -/
def microStepsToFire : Phase → Bool → Nat
  | .boot, _ => 6
  | .s1, _ => 5
  | .s2, reached => if reached then 4 else 9
  | .s3, reached => if reached then 3 else 8
  | .s3a, reached => if reached then 2 else 7
  | .s3b, reached => if reached then 1 else 6
  | .s4, _ => 7

theorem microStepsToFire_pos (ph : Phase) (reached : Bool) : 0 < microStepsToFire ph reached := by
  cases ph <;> cases reached <;> decide

theorem microStepsToFire_le_nine (ph : Phase) (reached : Bool) : microStepsToFire ph reached ≤ 9 := by
  cases ph <;> cases reached <;> decide

/-- `NOW` has reached the deadline. -/
def deadlineReached (s : State) : Bool := decide (s.deadline.toNat ≤ s.now.toNat)

/-- The micro-steps to go in state `s`. -/
def toGo (s : State) : Nat := microStepsToFire s.sph (deadlineReached s)

/-- A hand-over that leaves `NOW` and the deadline alone takes one off, where the table says so of both settings. -/
theorem toGo_lt_of_handover {s t : State} {ph ph' : Phase} (hs : s.sph = ph) (ht : t.sph = ph')
    (same : deadlineReached t = deadlineReached s)
    (table : ∀ reached, microStepsToFire ph' reached < microStepsToFire ph reached) : toGo t < toGo s := by
  rw [toGo, toGo, hs, ht, same]
  exact table _

/-- A micro-step that is no firing is one of those to go, once the clock is past the deadline. -/
theorem schedKind_toGo {s t : State} (kind : SchedKind s t) (gateOpen : s.en = true) (noRequest : s.pend = false)
    (noFire : ¬ (s.sph = .s3b ∧ deadlineExpired s = true)) (nonzero : s.deadline ≠ 0)
    (past : s.deadline.toNat ≤ (clockRead s).toNat) : toGo t < toGo s := by
  cases kind with
  | boot phase => exact toGo_lt_of_handover (ph' := .s1) phase rfl rfl (by decide)
  | snapshot phase =>
    have reached : deadlineReached { s with now := clockRead s, sph := .s2 } = true := decide_eq_true past
    simp [toGo, phase, microStepsToFire, reached]
  | persist phase => exact toGo_lt_of_handover (ph' := .s3) phase rfl rfl (by decide)
  | nothingToPersist phase => exact toGo_lt_of_handover (ph' := .s3) phase rfl rfl (by decide)
  | gate phase => exact toGo_lt_of_handover phase (if_pos gateOpen) rfl (by decide)
  | episode _ request => simp [noRequest] at request
  | noEpisode phase => exact toGo_lt_of_handover (ph' := .s3b) phase rfl rfl (by decide)
  | fire phase expired => exact absurd ⟨phase, expired⟩ noFire
  | noFire phase notExpired =>
    have notReached : deadlineReached s = false := by
      rw [Bool.eq_false_iff, Ne, deadlineExpired_iff] at notExpired
      exact decide_eq_false fun reached => notExpired ⟨nonzero, reached⟩
    simp [toGo, phase, microStepsToFire, notReached]
  | cancel phase =>
    by_cases gated : s.cfg.deadlineGated = true
    · exact toGo_lt_of_handover phase (if_pos gated) rfl (by decide)
    · exact toGo_lt_of_handover phase (if_neg gated) rfl (by decide)

/-- With nothing requested and no firing, a step keeps the deadline, and a micro-step of SCHED is one of those to go. -/
theorem step_toGo {s t : State} (h : step s = .next t) (noReset : nextTurn s ≠ .reset) (gateOpen : s.en = true)
    (noRequest : s.pend = false) (noFire : ¬ ComparatorFires s) (nonzero : s.deadline ≠ 0)
    (past : s.deadline.toNat ≤ (clockRead s).toNat) :
    t.deadline = s.deadline ∧
      toGo t + (if nextTurn s = .sched ∧ turnEnabled .sched s = true then 1 else 0) ≤ toGo s := by
  have deadline : t.deadline = s.deadline := by
    by_contra changed
    obtain starts | ⟨fires, -⟩ | ⟨reset, -⟩ := onlyTheSchedulerWritesTheDeadline s t h changed
    · exact not_startsEpisode_of_no_request noRequest starts
    · exact noFire fires
    · exact noReset reset
  refine ⟨deadline, ?_⟩
  by_cases sched : nextTurn s = .sched
  · have takes : TakesTurn .sched s := ⟨sched, rfl⟩
    rw [step_of_takesTurn takes] at h
    obtain rfl := Host.Outcome.next.inj h
    have same : toGo (afterTurn s) = toGo s := by simp [toGo, deadlineReached]
    rw [if_pos ⟨sched, rfl⟩, ← same]
    refine schedKind_toGo (schedKind _) (by simpa using gateOpen) (by simpa using noRequest) ?_ (by simpa using nonzero)
      (by simpa using past)
    rintro ⟨phase, expired⟩
    exact noFire (comparatorFires_of takes phase expired)
  · obtain ⟨sph, now, -⟩ := handlersLeaveTheSequencerAlone s t h sched noReset
    simp [sched, toGo, deadlineReached, sph, now, deadline]

/-- Over a run with no firing the deadline stands, and the micro-steps taken are fewer than nine. -/
theorem toGo_of_run {r : Nat → State} {n : Nat} (run : IsRun r n) (noReset : NoReset r n)
    (waiting : ∀ i, i < n → (r i).en = true ∧ (r i).pend = false) (noFire : ∀ i, i < n → ¬ ComparatorFires (r i))
    (nonzero : (r 0).deadline ≠ 0) (past : ∀ i, i < n → (r 0).deadline.toNat ≤ (clockRead (r i)).toNat) :
    (r n).deadline = (r 0).deadline ∧ toGo (r n) + stepsOf .sched r n ≤ 9 := by
  induction n with
  | zero => exact ⟨rfl, microStepsToFire_le_nine _ _⟩
  | succ n ih =>
    obtain ⟨deadline, bound⟩ := ih (run.mono n.le_succ) (noReset.mono n.le_succ)
      (fun i hi => waiting i (hi.trans n.lt_succ_self)) (fun i hi => noFire i (hi.trans n.lt_succ_self))
      fun i hi => past i (hi.trans n.lt_succ_self)
    obtain ⟨gateOpen, noRequest⟩ := waiting n n.lt_succ_self
    obtain ⟨kept, fewer⟩ := step_toGo (run n n.lt_succ_self) (noReset n n.lt_succ_self) gateOpen noRequest
      (noFire n n.lt_succ_self) (deadline ▸ nonzero) (deadline ▸ past n n.lt_succ_self)
    refine ⟨kept.trans deadline, ?_⟩
    rw [stepsOf]
    omega

/-- Settles O36: the clock only rises, so it stays past the deadline, and nine micro-steps without a firing are more than
there are to go. -/
theorem anExpiredDeadlineFiresWithinNineMicroSteps : Obligations.AnExpiredDeadlineFiresWithinNineMicroSteps := by
  intro r n run noReset tick_lt fits lost wrap waiting nonzero past nine
  have stillPast : ∀ i, i < n → (r 0).deadline.toNat ≤ (clockRead (r i)).toNat := by
    intro i hi
    obtain ⟨lost', wrap'⟩ := clockFaults_clear_in_run hi.le run lost wrap
    obtain ⟨-, fits', count⟩ := combinedCount_of_run (run.mono hi.le) (noReset.mono hi.le) tick_lt fits lost' wrap'
    rw [toNat_clockRead_of_fits fits']
    omega
  obtain ⟨i, hi, fires⟩ : ∃ i, i < n ∧ ComparatorFires (r i) := by
    by_contra none
    have noFire : ∀ i, i < n → ¬ ComparatorFires (r i) := fun i hi fires => none ⟨i, hi, fires⟩
    have bound := (toGo_of_run run noReset (fun i hi => waiting i hi.le) noFire nonzero stillPast).2
    have pos : 0 < toGo (r n) := microStepsToFire_pos _ _
    omega
  obtain ⟨deadline, out, -⟩ := step_of_comparatorFires fires (run i hi)
  exact ⟨i, hi, fires, deadline, out⟩

end Sys2Proof.Machine
end

section
/-! PROOFS. Liveness in fair runs (60_exceptions.md R133, 70_reset_and_hazards.md R160, R162, R167): a buffered packet is
dispatched, a persist request written, an episode request acted on. -/

namespace Sys2Proof.Machine

open Sys2Proof

/-! ### A turn of a schedule is a step -/

/-- `s` with the turn `t` listed first. -/
def withTurn (t : Turn) (s : State) : State := { s with turns := t :: s.turns }

theorem step_of_interleaving {sched : Nat → Turn} {r : Nat → State} (run : IsInterleaving sched r) (i : Nat) :
    step (withTurn (sched i) (r i)) = .next (r (i + 1)) :=
  run i

/-- SCHED's turn is never idle (41_scheduler.md R95). -/
theorem next_of_sched {sched : Nat → Turn} {r : Nat → State} (run : IsInterleaving sched r) {i : Nat}
    (turn : sched i = .sched) : r (i + 1) = schedStep (r i) := by
  have h := run i
  rw [turn] at h
  exact (Host.Outcome.next.inj h).symm

/-! ### What lasts until something ends it -/

/-- A property that every step of an interval keeps lasts to its end. -/
theorem lasts {P : Nat → Prop} {n m : Nat} (hnm : n ≤ m) (start : P n) (keeps : ∀ k, n ≤ k → k < m → P k → P (k + 1)) :
    P m := by
  induction m, hnm using Nat.le_induction with
  | base => exact start
  | succ m hnm ih => exact keeps m hnm m.lt_succ_self (ih fun k hnk hkm => keeps k hnk (hkm.trans m.lt_succ_self))

theorem exists_first {P : Nat → Prop} {n : Nat} (h : ∃ m, n ≤ m ∧ P m) :
    ∃ m, n ≤ m ∧ P m ∧ ∀ k, n ≤ k → k < m → ¬ P k := by
  classical
  obtain ⟨hnm, hm⟩ := Nat.find_spec h
  exact ⟨Nat.find h, hnm, hm, fun k hnk hk hP => Nat.find_min h hk ⟨hnk, hP⟩⟩

theorem sph_of_other_turn {sched : Nat → Turn} {r : Nat → State} (run : IsInterleaving sched r) {i : Nat}
    (noSched : sched i ≠ .sched) (noReset : sched i ≠ .reset) : (r (i + 1)).sph = (r i).sph :=
  (handlersLeaveTheSequencerAlone _ _ (step_of_interleaving run i) noSched noReset).1

/-! ### The main loop goes round (41_scheduler.md R94) -/

theorem exists_sched_turn {sched : Nat → Turn} {r : Nat → State} (fair : FairFor .sched sched r) (n : Nat) :
    ∃ m, n ≤ m ∧ sched m = .sched := by
  obtain ⟨m, hnm, ⟨turn, -⟩ | disabled⟩ := fair n
  · exact ⟨m, hnm, turn⟩
  · simp [turnEnabled] at disabled

/-- A fair run takes SCHED through its phases: where each micro-step lowers `distance`, one at distance 0 is taken. -/
theorem exists_sched_turn_at {sched : Nat → Turn} {r : Nat → State} (run : IsInterleaving sched r)
    (fair : FairFor .sched sched r) (noReset : ∀ i, sched i ≠ .reset) (distance : Phase → Nat)
    (nearer : ∀ ph, distance ph ≠ 0 → ∀ gated en, distance (nextPhase gated en ph) < distance ph) (n : Nat) :
    ∃ m, n ≤ m ∧ sched m = .sched ∧ distance (r m).sph = 0 := by
  induction hd : distance (r n).sph using Nat.strong_induction_on generalizing n with
  | _ d ih =>
    obtain ⟨m, hnm, turn, first⟩ := exists_first (exists_sched_turn fair n)
    have phase : (r m).sph = (r n).sph :=
      lasts (P := fun k => (r k).sph = (r n).sph) hnm rfl fun k hnk hkm same =>
        (sph_of_other_turn run (first k hnk hkm) (noReset k)).trans same
    by_cases arrived : distance (r m).sph = 0
    · exact ⟨m, hnm, turn, arrived⟩
    · have lower : distance (r (m + 1)).sph < d := by
        rw [next_of_sched run turn, schedStep_sph, ← hd, ← phase]
        exact nearer _ arrived _ _
      obtain ⟨k, hmk, arrives⟩ := ih _ lower (m + 1) rfl
      exact ⟨k, by omega, arrives⟩

/-- How many micro-steps at most lie between a phase and S2. -/
def distanceToS2 : Phase → Nat
  | .boot => 2
  | .s1 => 1
  | .s2 => 0
  | .s3 => 4
  | .s3a => 3
  | .s3b => 2
  | .s4 => 3

/-- How many micro-steps at most lie between a phase and S3A or S4. -/
def distanceToGate : Phase → Nat
  | .boot => 4
  | .s1 => 3
  | .s2 => 2
  | .s3 => 1
  | .s3a => 0
  | .s3b => 4
  | .s4 => 0

theorem distanceToS2_nextPhase (ph : Phase) : distanceToS2 ph ≠ 0 → ∀ gated en : Bool,
    distanceToS2 (nextPhase gated en ph) < distanceToS2 ph := by
  cases ph <;> decide

theorem distanceToGate_nextPhase (ph : Phase) : distanceToGate ph ≠ 0 → ∀ gated en : Bool,
    distanceToGate (nextPhase gated en ph) < distanceToGate ph := by
  cases ph <;> decide

theorem nextPhase_ne_boot (ph : Phase) : ∀ gated en : Bool, nextPhase gated en ph ≠ .boot := by
  cases ph <;> decide

/-! ### The receive buffer (40_dispatch.md R73, R87) -/

/-- A full buffer is emptied by DISPATCH or reset alone: no delivery is enabled. -/
theorem step_rxBuf_of_full {s t : State} (h : step s = .next t) (full : s.rxPend = true) (noReset : nextTurn s ≠ .reset)
    (noDispatch : ¬ TakesTurn .dispatch s) : t.rxBuf = s.rxBuf := by
  cases stepKind h with
  | discard takes => exact absurd takes noDispatch
  | command i u hd => exact absurd hd.1 noDispatch
  | rx p takes =>
    have enabled := takes.2
    simp [turnEnabled, rxEnabled, full] at enabled
  | reset turn => exact absurd turn noReset
  | ticker => simp [tickerStep_eq]
  | sched _ _ kind => cases kind <;> simp
  | idle | ovfsvc | sersvc => simp [ovfsvcStep_eq]

theorem step_rxPend_of_dispatch {s t : State} (h : step s = .next t) (takes : TakesTurn .dispatch s) :
    t.rxPend = false := by
  rw [step_of_takesTurn takes] at h
  exact rxPend_eq_false_of_empty (dispatchStep_rxBuf h)

theorem schedStep_not_boot (s : State) : (schedStep s).sph ≠ .boot :=
  schedStep_sph s ▸ nextPhase_ne_boot s.sph _ _

/-- Once past BOOT a run with no reset stays past it. -/
theorem not_boot_lasts {sched : Nat → Turn} {r : Nat → State} (run : IsInterleaving sched r)
    (noReset : ∀ i, sched i ≠ .reset) {n m : Nat} (hnm : n ≤ m) (past : (r n).sph ≠ .boot) : (r m).sph ≠ .boot :=
  lasts (P := fun k => (r k).sph ≠ .boot) hnm past fun k _ _ past => by
    by_cases turn : sched k = .sched
    · rw [next_of_sched run turn]
      exact schedStep_not_boot _
    · rwa [sph_of_other_turn run turn (noReset k)]

/-- DISPATCH takes turn `i` of the schedule. -/
def DispatchTaken (sched : Nat → Turn) (r : Nat → State) (i : Nat) : Prop :=
  sched i = .dispatch ∧ turnEnabled .dispatch (r i) = true

theorem rxBuf_lasts {sched : Nat → Turn} {r : Nat → State} (run : IsInterleaving sched r)
    (noReset : ∀ i, sched i ≠ .reset) {n m : Nat} (hnm : n ≤ m) (full : (r n).rxPend = true)
    (noDispatch : ∀ k, n ≤ k → k < m → ¬ DispatchTaken sched r k) : (r m).rxBuf = (r n).rxBuf :=
  lasts (P := fun k => (r k).rxBuf = (r n).rxBuf) hnm rfl fun k hnk hkm same => by
    have stillFull : (r k).rxPend = true := by rwa [State.rxPend, same]
    have kept : (r (k + 1)).rxBuf = (r k).rxBuf :=
      step_rxBuf_of_full (s := withTurn (sched k) (r k)) (step_of_interleaving run k) stillFull (noReset k)
        (noDispatch k hnk hkm)
    exact kept.trans same

/-- Fairness of SCHED brings the run past BOOT, where a full buffer enables DISPATCH; its own fairness does the rest. -/
theorem exists_dispatchTaken {sched : Nat → Turn} {r : Nat → State} (run : IsInterleaving sched r)
    (fairSched : FairFor .sched sched r) (fairDispatch : FairFor .dispatch sched r) (noReset : ∀ i, sched i ≠ .reset)
    {n : Nat} (full : (r n).rxPend = true) : ∃ m, n ≤ m ∧ DispatchTaken sched r m := by
  by_contra never
  have noDispatch : ∀ k, n ≤ k → ¬ DispatchTaken sched r k := fun k hnk taken => never ⟨k, hnk, taken⟩
  obtain ⟨b, hnb, turn⟩ := exists_sched_turn fairSched n
  have past : (r (b + 1)).sph ≠ .boot := next_of_sched run turn ▸ schedStep_not_boot _
  obtain ⟨m, hbm, taken | disabled⟩ := fairDispatch (b + 1)
  · exact noDispatch m (by omega) taken
  · have buffered := rxBuf_lasts run noReset (show n ≤ m by omega) full fun k hnk _ => noDispatch k hnk
    have enabled : turnEnabled .dispatch (r m) = true :=
      (turnEnabled_dispatch_iff _).mpr ⟨by rwa [State.rxPend, buffered], not_boot_lasts run noReset hbm past⟩
    simp [enabled] at disabled

/-! ### The obligations -/

/-- Settles O58: up to the first DISPATCH the packet stays in the buffer, and that step empties it. -/
theorem everyBufferedPacketIsDispatched : Obligations.EveryBufferedPacketIsDispatched := by
  intro sched r run fair noReset n full
  obtain ⟨fairSched, -, fairDispatch, -⟩ := fair
  obtain ⟨m, hnm, ⟨turn, enabled⟩, first⟩ :=
    exists_first (exists_dispatchTaken run fairSched fairDispatch noReset full)
  refine ⟨m, hnm, turn, enabled, rxBuf_lasts run noReset hnm full first, ?_⟩
  exact step_rxPend_of_dispatch (step_of_interleaving run m) ⟨turn, enabled⟩

theorem dirty_of_not_persisted {sched : Nat → Turn} {r : Nat → State} (run : IsInterleaving sched r) {i : Nat}
    (noReset : sched i ≠ .reset) (other : ¬ (sched i = .sched ∧ distanceToS2 (r i).sph = 0))
    (dirty : (r i).dirty = true) : (r (i + 1)).dirty = true := by
  by_contra cleared
  obtain ⟨⟨⟨turn, -⟩, phase⟩, -⟩ | reset :=
    (aPersistRequestIsKeptUntilItIsWritten _ _ (step_of_interleaving run i)).2 dirty (by simpa using cleared)
  · have at2 : (r i).sph = .s2 := phase
    exact other ⟨turn, at2 ▸ rfl⟩
  · exact noReset reset

theorem pend_of_not_acted_on {sched : Nat → Turn} {r : Nat → State} (run : IsInterleaving sched r) {i : Nat}
    (noReset : sched i ≠ .reset) (other : ¬ (sched i = .sched ∧ distanceToGate (r i).sph = 0))
    (pend : (r i).pend = true) : (r (i + 1)).pend = true := by
  by_contra cleared
  obtain ⟨⟨⟨turn, -⟩, phase⟩, -⟩ | ⟨⟨turn, -⟩, phase⟩ | reset :=
    (onlyItsWritersChangeTheRequest _ _ (step_of_interleaving run i)).2 pend (by simpa using cleared)
  · have at3a : (r i).sph = .s3a := phase
    exact other ⟨turn, at3a ▸ rfl⟩
  · have at4 : (r i).sph = .s4 := phase
    exact other ⟨turn, at4 ▸ rfl⟩
  · exact noReset reset

theorem distanceToS2_eq_zero {ph : Phase} (h : distanceToS2 ph = 0) : ph = .s2 := by
  cases ph <;> simp_all [distanceToS2]

theorem distanceToGate_eq_zero {ph : Phase} (h : distanceToGate ph = 0) : ph = .s3a ∨ ph = .s4 := by
  cases ph <;> simp_all [distanceToGate]

/-- Settles O59: the first S2, and the first S3A or S4, finds the request still set and acts on it. -/
theorem everyRequestIsActedOn : Obligations.EveryRequestIsActedOn := by
  intro sched r run fair noReset n
  refine ⟨fun dirty => ?_, fun pend => ?_⟩
  · obtain ⟨m, hnm, ⟨turn, arrived⟩, first⟩ := exists_first
      (exists_sched_turn_at run fair noReset distanceToS2 distanceToS2_nextPhase n)
    have stillDirty : (r m).dirty = true := lasts (P := fun k => (r k).dirty = true) hnm dirty
      fun k hnk hkm => dirty_of_not_persisted run (noReset k) (first k hnk hkm)
    have phase := distanceToS2_eq_zero arrived
    refine ⟨m, hnm, turn, phase, stillDirty, ?_⟩
    rw [next_of_sched run turn, schedStep_of_s2 phase, dirtyLatch_of_dirty stillDirty]
    exact ⟨rfl, rfl⟩
  · obtain ⟨m, hnm, ⟨turn, arrived⟩, first⟩ := exists_first
      (exists_sched_turn_at run fair noReset distanceToGate distanceToGate_nextPhase n)
    have stillPend : (r m).pend = true := lasts (P := fun k => (r k).pend = true) hnm pend
      fun k hnk hkm => pend_of_not_acted_on run (noReset k) (first k hnk hkm)
    refine ⟨m, hnm, turn, stillPend, ?_⟩
    rw [next_of_sched run turn]
    obtain phase | phase := distanceToGate_eq_zero arrived
    · rw [schedStep_of_s3a phase, armLatch_of_pend stillPend]
      exact ⟨rfl, .inl ⟨phase, rfl⟩⟩
    · rw [schedStep_of_s4 phase]
      exact ⟨rfl, .inr phase⟩

end Sys2Proof.Machine
end
